-- ==== Sys2Proof/Word.lean ====
section
/-! DEFINITION. The word types of the CRC-16 codec block (spec/00_scope.md rules R8 and R10): a byte, a
u16 and a 32-bit host word. Every one is unsigned; bit 0 is the least significant bit. -/

namespace Sys2Proof

/-- A byte: an unsigned 8-bit value, 0..255 (R8). -/
abbrev Byte := BitVec 8

/-- A u16: an unsigned 16-bit value, 0..65535 (R8). -/
abbrev U16 := BitVec 16

/-- A host register value or a command word: 32 bits (R66, R92). -/
abbrev Word := BitVec 32

end Sys2Proof
end

