-- ==== Sys2Proof/Bus.lean ====
section
/-! DEFINITION. What reaches the block from outside (spec/20_memory.md section 1, 70_reset_and_hazards.md rule R400):
host bus accesses and the platform's reset. Syntax.lean holds the commands; this file holds the accesses that carry
them. -/

namespace Sys2Proof

/-- One thing the platform does to the block. `MemRead(addr, n)` and `MemWrite(addr, n, v)` are the spec's host bus
accesses (R11); the model numbers them by the platform's address, so that P_BASE counts, and keeps every width, so that
the widths the block does not define can be refused (R61, I4). -/
inductive BusEvent where
  /-- a host read of `width` bytes at `addr` -/
  | read (addr width : Nat)
  /-- a host write of `width` bytes at `addr`; `value` is the 32-bit word on the bus -/
  | write (addr width : Nat) (value : Word)
  /-- the platform's hardware reset, which includes power-up (R400 (a), R325) -/
  | hardwareReset
deriving DecidableEq, Repr

/-- The registers of the block's register summary (10_state.md section 1), in the order of their offsets. -/
inductive Reg where
  | cmd | status | opa | opb | opw0 | opw1 | crc | resId | resCrc | inLen | outLen | ftProfile | caps
deriving DecidableEq, Repr

/-- What an offset of the register space names (R60). -/
inductive Target where
  /-- a register of 10_state.md -/
  | reg (r : Reg)
  /-- word `i` of the IN window -/
  | inWindow (i : Nat)
  /-- word `i` of the OUT window -/
  | outWindow (i : Nat)
  /-- a reserved offset: reads return 0, writes are ignored -/
  | reserved
deriving DecidableEq, Repr

end Sys2Proof
end

