-- ==== Sys2Proof/Config.lean ====
section
/-! DEFINITION. The two parameters the spec leaves OPEN (spec/00_scope.md rule R7; 92_eei_decisions.md D2, D5):
the buffer capacity P_MAX_BUF and the base address P_BASE. The model takes both as arguments: they are the fields
`maxBuf` and `base` of State, `State.resetWith` builds the reset state for any values of them, and every statement
about a state holds for every value. Only the one machine the host runs, `State.reset`, needs numbers; those stand
here (DESIGN CHOICE, notes/assumptions/1.md and 2.md). -/

namespace Sys2Proof.Config

/-- The least P_MAX_BUF the spec allows (R7). -/
def minCapacity : Nat := 16

/-- The greatest P_MAX_BUF the spec allows (R7). -/
def maxCapacity : Nat := 1024

/-- P_MAX_BUF of the one machine `State.reset` stands for. DESIGN CHOICE (notes/assumptions/1.md): the spec leaves it
open; no statement of this model rests on the number. -/
def resetCapacity : Nat := 1024

/-- P_BASE of the one machine `State.reset` stands for. DESIGN CHOICE (notes/assumptions/2.md): the spec leaves it open;
no statement of this model rests on the number. -/
def resetBase : Nat := 0

/-- How many bytes of address space the block decodes: offsets 0x0000 to 0x3FFF (R60). -/
def spaceSize : Nat := 0x4000

/-- Words in each buffer window: word `i` for `0 <= i < 1024` (R60). -/
def windowWords : Nat := 1024

/-- CAPS.VERSION, the interface version of this spec (R43). -/
def interfaceVersion : Byte := 0x01

/-- CRC_POLY, applied by right shifts (R7). -/
def crcPoly : U16 := 0xA001

/-- CRC_SEED (R7). -/
def crcSeed : U16 := 0xFFFF

/-- STUFF_BYTE (R7, R160). -/
def stuffByte : Byte := 0xAA

/-- The reset value of FT_PROFILE: HEADER `AA CC`, TAIL `AA EE` (R42). -/
def profileReset : Word := 0xEEAACCAA

/-- The Modbus function codes the codec handles: read holding, read input, write single register (R211). -/
def functionCodes : List Byte := [0x03, 0x04, 0x06]

end Sys2Proof.Config
end

