-- ==== Sys2Proof/Machine/State.lean ====
section
/-! DEFINITION. The state of the block (spec/10_state.md), the status codes (60_exceptions.md rule R300), the reasons a
step can stop, and the reset state (R47). State is plain data. The block has no memory of its own and no program counter
(20_memory.md rule R60, 10_state.md rule R31): its only byte storage is the two buffers IN and OUT, held as the byte
sequences they are (R38). -/

namespace Sys2Proof.Machine

/-- The result codes a command can report (R300). -/
inductive StatusCode where
  /-- the command completed -/
  | ok
  /-- the CMD word decodes to ILLEGAL -/
  | illegalCommand
  /-- the result would exceed P_MAX_BUF bytes, or IN is full -/
  | overflow
  /-- a frame of the wrong length, or with the wrong header or tail -/
  | frameFormatError
  /-- a CRC that differs from the computed one, or a FASTECH body shorter than 4 bytes -/
  | checksumError
  /-- a Modbus response from another slave, of another function, or with another byte count -/
  | responseMismatch
  /-- a function code other than 0x03, 0x04 and 0x06 -/
  | unsupportedFunction
deriving DecidableEq, Repr

/-- Why the machine stops with a fault. No command ever raises one: the block reports every error of a command in STATUS
and goes on (R311, R312). -/
inductive Fault where
  /-- Raised by a host access (`serve`) whose address is outside `P_BASE + 0x0000 .. P_BASE + 0x3FFF`: no offset of the
  block's address space (R60) is named, so the access is not the block's. Safe: the model stops, and says nothing of what
  the platform has at that address. -/
  | outsideSpace (addr : Nat)
deriving DecidableEq, Repr

/-- Why the model gives no meaning. -/
inductive Refusal where
  /-- Raised by `exec`'s arm of a command that has no meaning in this model. No arm answers it. Safe: the model stops. -/
  | notModelled (mnemonic : String)
  /-- Raised by a host access of a width other than 4 bytes: it "has no defined behaviour. A model refuses it" (R61,
  93_implementation_defined.md I4). Safe: the model stops. -/
  | accessWidth (width : Nat)
  /-- Raised by a host access at an offset that is not a multiple of 4: it "has no defined behaviour. A model refuses it"
  (R61, I4). Safe: the model stops. -/
  | misalignedAccess (offset : Nat)
deriving DecidableEq, Repr

/-- The pieces of state a command can read or write, under the names of rule R98. -/
inductive Loc where
  | status | opa | opb | opw0 | opw1 | crc | resSlave | resType | resRxCrc | resCalcCrc | inBuf | outBuf | ftProfile
deriving DecidableEq, Repr

/-- The state of one block instance (10_state.md), and what stands beside it: the two OPEN parameters and the host's bus.
CMD is not storage (R44); IN_LEN, OUT_LEN and CAPS are computed when they are read (R41, R43). -/
structure State where
  /-- STATUS.CODE, the result code of the most recent command (R32) -/
  status : Byte
  /-- OPA.SLAVE, the slave-ID operand (R33) -/
  opa : Byte
  /-- OPB.CODE, the frame-type or function-code operand (R34) -/
  opb : Byte
  /-- OPW0.ADDR, the Modbus register-address operand (R35) -/
  opw0 : U16
  /-- OPW1.DATA, the 16-bit data operand (R36) -/
  opw1 : U16
  /-- CRC.VALUE, the accumulator of the Checksum Unit (R37) -/
  crc : U16
  /-- RES_ID.RES_SLAVE (R39) -/
  resSlave : Byte
  /-- RES_ID.RES_TYPE (R39) -/
  resType : Byte
  /-- RES_CRC.RES_RXCRC (R40) -/
  resRxCrc : U16
  /-- RES_CRC.RES_CALCCRC (R40) -/
  resCalcCrc : U16
  /-- IN, the input buffer (R38) -/
  inBuf : List Byte
  /-- OUT, the output buffer (R38) -/
  outBuf : List Byte
  /-- FT_PROFILE: H0, H1, T0, T1 from the low byte up (R42) -/
  ftProfile : Word
  /-- P_MAX_BUF, the OPEN capacity of each buffer, which CAPS.MAX_BUF reports (R7, R43): fixed for the instance, and no
  command, write or reset changes it -/
  maxBuf : Nat
  /-- P_BASE, the OPEN base address the platform gives the instance (R60): fixed for the instance -/
  base : Nat
  /-- THE MODEL'S OWN: the accesses the platform will make and the block has not yet received, the next one first. The
  block serves them one at a time in this order (R71); the model leaves the sequence free (R76, I12) -/
  bus : List BusEvent
  /-- THE MODEL'S OWN: the word the latest host read returned, none before the first read. The spec gives a read no effect
  on the block (R69); this is where the reader's side of it is seen -/
  rdata : Option Word
deriving DecidableEq, Repr

/-- What the two byte buffers must keep: neither holds more than P_MAX_BUF bytes (R38, R143). The block has no other
memory (R60). A byte sequence is its own canonical form, so equal contents are equal data. -/
abbrev Memory.wf (s : State) : Prop :=
  s.inBuf.length ≤ s.maxBuf ∧ s.outBuf.length ≤ s.maxBuf

/-- The reset state (R47) of a block of capacity P_MAX_BUF = `n` at P_BASE = `base`, before any host access. -/
def State.resetWith (n base : Nat) : State where
  status := 0x00
  opa := 0x00
  opb := 0x00
  opw0 := 0x0000
  opw1 := 0x0000
  crc := Config.crcSeed
  resSlave := 0x00
  resType := 0x00
  resRxCrc := 0x0000
  resCalcCrc := 0x0000
  inBuf := []
  outBuf := []
  ftProfile := Config.profileReset
  maxBuf := n
  base := base
  bus := []
  rdata := none

/-- The machine right after reset, for the capacity and base address of Config (R47, R400). -/
def State.reset : State := State.resetWith Config.resetCapacity Config.resetBase

end Sys2Proof.Machine
end

