-- ==== Sys2Proof/Machine/Flags.lean ====
section
/-! DEFINITION. The one condition code of the block, STATUS (spec/60_exceptions.md rule R300; 10_state.md rule R45). -/

namespace Sys2Proof.Machine

/-- The number each result code puts into STATUS.CODE (R300). -/
def StatusCode.code : StatusCode → Byte
  | .ok => 0x00
  | .illegalCommand => 0x01
  | .overflow => 0x02
  | .frameFormatError => 0x10
  | .checksumError => 0x11
  | .responseMismatch => 0x12
  | .unsupportedFunction => 0x13

/-- The values STATUS.CODE takes, and no other (R300). -/
def statusValues : List Byte :=
  [StatusCode.code .ok, StatusCode.code .illegalCommand, StatusCode.code .overflow, StatusCode.code .frameFormatError,
   StatusCode.code .checksumError, StatusCode.code .responseMismatch, StatusCode.code .unsupportedFunction]

end Sys2Proof.Machine
end

