-- ==== Sys2Proof/Syntax.lean ====
section
/-! DEFINITION. The commands of the block, one constructor for each row of spec/opcode_table.json (spec/30_encoding.md
rule R95). CRC_UPDATE and BUF_PUSH carry the immediate byte IMM8; no other command has an operand in its word (R93). -/

namespace Sys2Proof

/-- A command: what one 32-bit word written to CMD asks the block to do (R90). -/
inductive Instr where
  /-- NOP (R240) -/
  | nop
  /-- CRC_INIT (R116) -/
  | crcInit
  /-- CRC_UPDATE b (R117) -/
  | crcUpdate (b : Byte)
  /-- CRC_FEED (R118) -/
  | crcFeed
  /-- CRC_COMPUTE (R119) -/
  | crcCompute
  /-- CRC_CHECK (R120) -/
  | crcCheck
  /-- BUF_CLEAR (R140) -/
  | bufClear
  /-- BUF_PUSH b (R141) -/
  | bufPush (b : Byte)
  /-- BUF_XFER (R142) -/
  | bufXfer
  /-- STUFF (R167) -/
  | stuff
  /-- DESTUFF (R168) -/
  | destuff
  /-- FT_ENCODE (R184) -/
  | ftEncode
  /-- FT_DECODE (R187) -/
  | ftDecode
  /-- MB_ENCODE (R214) -/
  | mbEncode
  /-- MB_DECODE (R215) -/
  | mbDecode
  /-- RESET (R241) -/
  | reset
deriving DecidableEq, Repr

end Sys2Proof
end

