-- ==== Sys2Proof/WellFormed.lean ====
section
/-! DEFINITION. The checks on what the model is given, as Bools. A command of the syntax has nothing to check beyond its
type: its one operand is a byte, every byte is legal (spec/30_encoding.md rule R93), and the reserved fields exist only
in words, where the decoder checks them. A host access is checked for its width, its place and its alignment (R60, R61),
a capacity for the range of P_MAX_BUF (R7), and a number in assembly text for fitting a byte (R99). -/

namespace Sys2Proof

/-- Every command of the syntax is well formed: IMM8 is a byte by type, and any byte is legal (R93). -/
def Instr.wellFormed : Instr → Bool
  | .nop => true
  | .crcInit => true
  | .crcUpdate _ => true
  | .crcFeed => true
  | .crcCompute => true
  | .crcCheck => true
  | .bufClear => true
  | .bufPush _ => true
  | .bufXfer => true
  | .stuff => true
  | .destuff => true
  | .ftEncode => true
  | .ftDecode => true
  | .mbEncode => true
  | .mbDecode => true
  | .reset => true

/-- An access the block defines: 32 bits wide, inside the 16 KiB space at `base`, at an offset that is a multiple of 4
(R60, R61). -/
def accessWellFormed (base addr width : Nat) : Bool :=
  decide (base ≤ addr) && decide (addr < base + Config.spaceSize) && width == 4 && (addr - base) % 4 == 0

/-- An event the block defines: an access of the right form, or the platform's reset. -/
def BusEvent.wellFormed (base : Nat) : BusEvent → Bool
  | .read addr width => accessWellFormed base addr width
  | .write addr width _ => accessWellFormed base addr width
  | .hardwareReset => true

/-- A capacity the spec allows: `16 <= P_MAX_BUF <= 1024` (R7). -/
def capacityWellFormed (n : Nat) : Bool :=
  decide (Config.minCapacity ≤ n) && decide (n ≤ Config.maxCapacity)

/-- A number that is a byte (R8), as an operand of assembly text must be (R99). -/
def byteWellFormed (n : Nat) : Bool := decide (n < 256)

end Sys2Proof
end

