-- ==== Sys2Proof/Decode.lean ====
section
/-! DEFINITION. The command word (spec/30_encoding.md): its three fields (R91), the opcode map of sixteen rows (R95),
the decoder, total on every 32-bit word (R96, R97), and the encoder (R99). -/

namespace Sys2Proof

/-! ## The fields of format C (R91) -/

/-- OP = w[7:0]. -/
def opField (w : Word) : Byte := w.extractLsb' 0 8

/-- IMM8 = w[15:8]. -/
def immField (w : Word) : Byte := w.extractLsb' 8 8

/-- RSVD = w[31:16]. -/
def rsvdField (w : Word) : U16 := w.extractLsb' 16 16

/-! ## The opcode map (R95) -/

/-- The OP of each command (R95). -/
def opcode : Instr → Byte
  | .nop => 0x00
  | .crcInit => 0x01
  | .crcUpdate _ => 0x02
  | .crcFeed => 0x03
  | .crcCompute => 0x04
  | .crcCheck => 0x05
  | .bufClear => 0x10
  | .bufPush _ => 0x11
  | .bufXfer => 0x12
  | .stuff => 0x20
  | .destuff => 0x21
  | .ftEncode => 0x30
  | .ftDecode => 0x31
  | .mbEncode => 0x40
  | .mbDecode => 0x41
  | .reset => 0xF0

/-- The IMM8 of each command: the data byte of CRC_UPDATE and BUF_PUSH, 0 for every other (R93). -/
def immediate : Instr → Byte
  | .nop => 0
  | .crcInit => 0
  | .crcUpdate b => b
  | .crcFeed => 0
  | .crcCompute => 0
  | .crcCheck => 0
  | .bufClear => 0
  | .bufPush b => b
  | .bufXfer => 0
  | .stuff => 0
  | .destuff => 0
  | .ftEncode => 0
  | .ftDecode => 0
  | .mbEncode => 0
  | .mbDecode => 0
  | .reset => 0

/-- The mnemonic of each command, as the opcode table spells it (R95). -/
def mnemonic : Instr → String
  | .nop => "NOP"
  | .crcInit => "CRC_INIT"
  | .crcUpdate _ => "CRC_UPDATE"
  | .crcFeed => "CRC_FEED"
  | .crcCompute => "CRC_COMPUTE"
  | .crcCheck => "CRC_CHECK"
  | .bufClear => "BUF_CLEAR"
  | .bufPush _ => "BUF_PUSH"
  | .bufXfer => "BUF_XFER"
  | .stuff => "STUFF"
  | .destuff => "DESTUFF"
  | .ftEncode => "FT_ENCODE"
  | .ftDecode => "FT_DECODE"
  | .mbEncode => "MB_ENCODE"
  | .mbDecode => "MB_DECODE"
  | .reset => "RESET"

/-- One row of the opcode map: a word `w` is the row's when `w & mask = pattern` (the map's "match"), and `build` makes
the command from IMM8. -/
structure Row where
  pattern : Word
  mask : Word
  build : Byte → Instr

/-- The assigned command words (R95). Every mask covers OP and RSVD; the rows of CRC_UPDATE and BUF_PUSH leave IMM8 free,
every other row asks for IMM8 = 0. -/
def rows : List Row :=
  [ ⟨0x00000000, 0xFFFFFFFF, fun _ => .nop⟩,
    ⟨0x00000001, 0xFFFFFFFF, fun _ => .crcInit⟩,
    ⟨0x00000002, 0xFFFF00FF, fun b => .crcUpdate b⟩,
    ⟨0x00000003, 0xFFFFFFFF, fun _ => .crcFeed⟩,
    ⟨0x00000004, 0xFFFFFFFF, fun _ => .crcCompute⟩,
    ⟨0x00000005, 0xFFFFFFFF, fun _ => .crcCheck⟩,
    ⟨0x00000010, 0xFFFFFFFF, fun _ => .bufClear⟩,
    ⟨0x00000011, 0xFFFF00FF, fun b => .bufPush b⟩,
    ⟨0x00000012, 0xFFFFFFFF, fun _ => .bufXfer⟩,
    ⟨0x00000020, 0xFFFFFFFF, fun _ => .stuff⟩,
    ⟨0x00000021, 0xFFFFFFFF, fun _ => .destuff⟩,
    ⟨0x00000030, 0xFFFFFFFF, fun _ => .ftEncode⟩,
    ⟨0x00000031, 0xFFFFFFFF, fun _ => .ftDecode⟩,
    ⟨0x00000040, 0xFFFFFFFF, fun _ => .mbEncode⟩,
    ⟨0x00000041, 0xFFFFFFFF, fun _ => .mbDecode⟩,
    ⟨0x000000F0, 0xFFFFFFFF, fun _ => .reset⟩ ]

/-- Whether a row matches a word (R96). -/
def rowMatches (w : Word) (r : Row) : Bool := (w &&& r.mask) == r.pattern

/-! ## The decoder (R96, R97) -/

/-- Why a word is ILLEGAL: the three kinds of R97. The block reports one code for all of them (R300), so the name is for
the reader only. -/
inductive Illegal where
  /-- (a) an OP that is not in the opcode map -/
  | unassignedOp
  /-- (b) RSVD is not 0 -/
  | reservedBits
  /-- (c) IMM8 is not 0 and the OP takes no immediate -/
  | unusedImmediate
deriving DecidableEq, Repr

/-- What a command word decodes to: a command, or ILLEGAL (R96). -/
inductive Decoded where
  | command (i : Instr)
  | illegal (why : Illegal)
deriving DecidableEq, Repr

/-- The name of an illegal word's fault. A word can be illegal in more than one way; the reserved bits are named first. -/
def illegalReason (w : Word) : Illegal :=
  if rsvdField w ≠ 0 then .reservedBits
  else if rows.any (fun r => opField r.pattern == opField w) then .unusedImmediate
  else .unassignedOp

/-- `decode(w)`: the row that matches, with IMM8 = w[15:8], or ILLEGAL (R96). -/
def decode (w : Word) : Decoded :=
  match rows.find? (rowMatches w) with
  | some r => .command (r.build (immField w))
  | none => .illegal (illegalReason w)

/-! ## The encoder (R99) -/

/-- Encoding a command: `w = OP | (IMM8 << 8)` (R99), RSVD = 0 (R94). -/
def encode (i : Instr) : Word :=
  (opcode i).setWidth 32 ||| ((immediate i).setWidth 32 <<< 8)

/-! ## The table's words -/

/-- The command word whose low `nbits` bits are `w`, every bit above them 0. A command is one 32-bit word (R92), written
to CMD as a number, so no byte order enters (R66). -/
def tableWord (nbits w : Nat) : Word := BitVec.ofNat 32 (w % 2 ^ nbits)

/-- The command the decoder reads from a word numbered as spec/opcode_table.json numbers it; none where it answers
ILLEGAL. -/
def decodeTableWord (nbits w : Nat) : Option Instr :=
  match decode (tableWord nbits w) with
  | .command i => some i
  | .illegal _ => none

end Sys2Proof
end

