-- ==== Sys2Proof/Machine/Operands.lean ====
section
/-! DEFINITION. What the rules read operands with: byte sequences and two-byte conversions (spec/00_scope.md rules R9 and
R10), the fields of FT_PROFILE (10_state.md rule R42), and the table of what each command reads and writes
(30_encoding.md rule R98). -/

namespace Sys2Proof.Machine

/-! ## Byte sequences (R9) -/

/-- `s[i]`. The rules use it only for `i < len(s)`. -/
def byteAt (s : List Byte) (i : Nat) : Byte := s.getD i 0

/-- `s[i..j)`: the elements at indices `i` to `j-1`, and `[]` when `j <= i`. -/
def slice (s : List Byte) (i j : Nat) : List Byte := (s.drop i).take (j - i)

/-! ## Two-byte conversions (R10) -/

/-- `v[7:0]`. -/
def lowByte (v : U16) : Byte := v.extractLsb' 0 8

/-- `v[15:8]`. -/
def highByte (v : U16) : Byte := v.extractLsb' 8 8

/-- `le16(v) = [v[7:0], v[15:8]]`. -/
def le16 (v : U16) : List Byte := [lowByte v, highByte v]

/-- `be16(v) = [v[15:8], v[7:0]]`. -/
def be16 (v : U16) : List Byte := [highByte v, lowByte v]

/-- `u16le(a, b) = a | (b << 8)`. -/
def u16le (a b : Byte) : U16 := a.setWidth 16 ||| (b.setWidth 16 <<< 8)

/-- `u16be(a, b) = (a << 8) | b`. -/
def u16be (a b : Byte) : U16 := (a.setWidth 16 <<< 8) ||| b.setWidth 16

/-! ## The frame profile (R42) -/

/-- FT_PROFILE.H0, the first header byte. -/
def profileH0 (p : Word) : Byte := p.extractLsb' 0 8

/-- FT_PROFILE.H1, the second header byte. -/
def profileH1 (p : Word) : Byte := p.extractLsb' 8 8

/-- FT_PROFILE.T0, the first tail byte. -/
def profileT0 (p : Word) : Byte := p.extractLsb' 16 8

/-- FT_PROFILE.T1, the second tail byte. -/
def profileT1 (p : Word) : Byte := p.extractLsb' 24 8

/-- HEADER means `[FT_PROFILE.H0, FT_PROFILE.H1]`. -/
def header (p : Word) : List Byte := [profileH0 p, profileH1 p]

/-- TAIL means `[FT_PROFILE.T0, FT_PROFILE.T1]`. -/
def tail (p : Word) : List Byte := [profileT0 p, profileT1 p]

/-! ## What each command reads and writes (R98) -/

/-- The state a command reads (R98). IMM8 is part of the command. -/
def reads : Instr → List Loc
  | .nop => []
  | .crcInit => []
  | .crcUpdate _ => [.crc]
  | .crcFeed => [.crc, .inBuf]
  | .crcCompute => [.inBuf]
  | .crcCheck => [.inBuf, .opw1]
  | .bufClear => []
  | .bufPush _ => [.inBuf]
  | .bufXfer => [.outBuf]
  | .stuff => [.inBuf]
  | .destuff => [.inBuf]
  | .ftEncode => [.opa, .opb, .inBuf, .ftProfile]
  | .ftDecode => [.inBuf, .ftProfile]
  | .mbEncode => [.opa, .opb, .opw0, .opw1]
  | .mbDecode => [.inBuf, .opa, .opb, .opw1]
  | .reset => []

/-- The state a command writes when it succeeds (R98). When it fails it writes STATUS alone (R302). -/
def writes : Instr → List Loc
  | .nop => [.status]
  | .crcInit => [.crc, .status]
  | .crcUpdate _ => [.crc, .status]
  | .crcFeed => [.crc, .status]
  | .crcCompute => [.crc, .status]
  | .crcCheck => [.resRxCrc, .resCalcCrc, .status]
  | .bufClear => [.inBuf, .status]
  | .bufPush _ => [.inBuf, .status]
  | .bufXfer => [.inBuf, .outBuf, .status]
  | .stuff => [.outBuf, .status]
  | .destuff => [.outBuf, .status]
  | .ftEncode => [.outBuf, .resCalcCrc, .status]
  | .ftDecode => [.outBuf, .resSlave, .resType, .resRxCrc, .resCalcCrc, .status]
  | .mbEncode => [.outBuf, .resCalcCrc, .status]
  | .mbDecode => [.outBuf, .resSlave, .resType, .resRxCrc, .resCalcCrc, .status]
  | .reset => [.status, .opa, .opb, .opw0, .opw1, .crc, .resSlave, .resType, .resRxCrc, .resCalcCrc, .inBuf, .outBuf,
      .ftProfile]

/-- Two states hold the same at a piece of state. -/
def agreesAt (s t : State) : Loc → Prop
  | .status => s.status = t.status
  | .opa => s.opa = t.opa
  | .opb => s.opb = t.opb
  | .opw0 => s.opw0 = t.opw0
  | .opw1 => s.opw1 = t.opw1
  | .crc => s.crc = t.crc
  | .resSlave => s.resSlave = t.resSlave
  | .resType => s.resType = t.resType
  | .resRxCrc => s.resRxCrc = t.resRxCrc
  | .resCalcCrc => s.resCalcCrc = t.resCalcCrc
  | .inBuf => s.inBuf = t.inBuf
  | .outBuf => s.outBuf = t.outBuf
  | .ftProfile => s.ftProfile = t.ftProfile

end Sys2Proof.Machine
end

