-- ==== Sys2Proof/Machine/Ops.lean ====
section
/-! DEFINITION. The named operations over the registers and buffers, and the two ways a command ends: `finish`, the
spec's `done`, and `raise`, the spec's `raise Status(code)` (spec/00_scope.md rule R11, 60_exceptions.md rule R302).
`raise` is the block's whole error entry: it takes no traps, saves nothing, changes no mode and goes nowhere (R311), so
there is no return from one (R312). -/

namespace Sys2Proof.Machine

/-! ## One update for each register and buffer -/

/-- `STATUS <- code`. -/
def State.setStatus (s : State) (c : StatusCode) : State := { s with status := c.code }

/-- `OPA <- v`. -/
def State.setOpa (s : State) (v : Byte) : State := { s with opa := v }

/-- `OPB <- v`. -/
def State.setOpb (s : State) (v : Byte) : State := { s with opb := v }

/-- `OPW0 <- v`. -/
def State.setOpw0 (s : State) (v : U16) : State := { s with opw0 := v }

/-- `OPW1 <- v`. -/
def State.setOpw1 (s : State) (v : U16) : State := { s with opw1 := v }

/-- `CRC <- v`. -/
def State.setCrc (s : State) (v : U16) : State := { s with crc := v }

/-- `RES_SLAVE <- slave; RES_TYPE <- type`. -/
def State.setResId (s : State) (slave type : Byte) : State := { s with resSlave := slave, resType := type }

/-- `RES_RXCRC <- v`. -/
def State.setResRxCrc (s : State) (v : U16) : State := { s with resRxCrc := v }

/-- `RES_CALCCRC <- v`. -/
def State.setResCalcCrc (s : State) (v : U16) : State := { s with resCalcCrc := v }

/-- `IN <- b`, the whole buffer (R11). -/
def State.setIn (s : State) (b : List Byte) : State := { s with inBuf := b }

/-- `OUT <- b`, the whole buffer (R11, R38). -/
def State.setOut (s : State) (b : List Byte) : State := { s with outBuf := b }

/-- `FT_PROFILE <- v`. -/
def State.setProfile (s : State) (v : Word) : State := { s with ftProfile := v }

/-- The accesses still to come. -/
def State.setBus (s : State) (es : List BusEvent) : State := { s with bus := es }

/-- The word a host read returns. -/
def State.setRdata (s : State) (v : Word) : State := { s with rdata := some v }

/-- Reset, hardware or soft: every piece of the block's state at its reset value, in one step (R400, R241). The two
parameters are constant (R43), and the host's side of the bus is not the block's state. -/
def State.resetBlock (s : State) : State :=
  { State.resetWith s.maxBuf s.base with bus := s.bus, rdata := s.rdata }

/-! ## How a command ends (R11) -/

/-- `done`: the command succeeds, and STATUS <- OK with the writes it made (R11, R301). -/
def finish (s : State) : Host.Outcome State Fault Refusal := .next (s.setStatus .ok)

/-- `raise Status(code)`: the command fails; STATUS <- code and nothing else (R11, R302). -/
def raise (c : StatusCode) (s : State) : Host.Outcome State Fault Refusal := .next (s.setStatus c)

/-! ## Decoded frames, shared by FT_DECODE and MB_DECODE -/

/-- What a frame decodes to: `OK(slave, type, data, rx, calc)` (R186, R216). -/
structure FrameFields where
  slave : Byte
  type : Byte
  data : List Byte
  rxCrc : U16
  calcCrc : U16
deriving DecidableEq, Repr

/-- The outcome of checking a frame: the code of the first check that failed, or the decoded fields (R185, R216). -/
inductive FrameResult where
  | error (c : StatusCode)
  | decoded (f : FrameFields)
deriving DecidableEq, Repr

/-- The end of a decode (R187, R215): an error code is raised; the fields of a good frame go into RES_ID, RES_CRC and
OUT. -/
def settleFrame (r : FrameResult) (s : State) : Host.Outcome State Fault Refusal :=
  match r with
  | .error c => raise c s
  | .decoded f => finish ((((s.setResId f.slave f.type).setResRxCrc f.rxCrc).setResCalcCrc f.calcCrc).setOut f.data)

end Sys2Proof.Machine
end

