-- ==== Sys2Proof/Machine/Buffer.lean ====
section
/-! DEFINITION. The buffer commands (spec/41_buffer.md, R140 to R142). -/

namespace Sys2Proof.Machine

/-- BUF_CLEAR (R140). -/
def execBufClear (s : State) : Host.Outcome State Fault Refusal := finish (s.setIn [])

/-- BUF_PUSH b (R141): a push into a buffer that holds P_MAX_BUF bytes raises OVERFLOW. -/
def execBufPush (b : Byte) (s : State) : Host.Outcome State Fault Refusal :=
  if s.inBuf.length = s.maxBuf then raise .overflow s else finish (s.setIn (s.inBuf ++ [b]))

/-- BUF_XFER (R142): IN takes OUT, and OUT is emptied. -/
def execBufXfer (s : State) : Host.Outcome State Fault Refusal := finish ((s.setIn s.outBuf).setOut [])

end Sys2Proof.Machine
end

