-- ==== Sys2Proof/Machine/Checksum.lean ====
section
/-! DEFINITION. The Checksum Unit (spec/40_crc.md): the algorithm (R110 to R112) and its five commands (R116 to R120). -/

namespace Sys2Proof.Machine

/-- One of the eight iterations of R110: test bit 0, shift right logically, and XOR with 0xA001 if the bit was 1. -/
def crcBit (c : U16) : U16 :=
  if c.getLsbD 0 then (c >>> 1) ^^^ Config.crcPoly else c >>> 1

/-- `repeat n times` the iteration (R110). -/
def crcBits : Nat → U16 → U16
  | 0, c => c
  | n + 1, c => crcBits n (crcBit c)

/-- `crc_step(c, b)`: the byte is XORed into the low byte, then eight iterations (R110). -/
def crcStep (c : U16) (b : Byte) : U16 := crcBits 8 (c ^^^ b.setWidth 16)

/-- `fold(crc_step, c, s)`: every byte of `s` in order, from the running value `c` (R114, R118). -/
def crcFold (c : U16) (s : List Byte) : U16 := s.foldl crcStep c

/-- `crc16(s)`: from the seed 0xFFFF, with no final XOR (R111). -/
def crc16 (s : List Byte) : U16 := crcFold Config.crcSeed s

/-- `crc16_verify(s, c) = (crc16(s) = c)` (R112). -/
def crc16Verify (s : List Byte) (c : U16) : Bool := crc16 s == c

/-- CRC_INIT (R116). -/
def execCrcInit (s : State) : Host.Outcome State Fault Refusal := finish (s.setCrc Config.crcSeed)

/-- CRC_UPDATE b (R117). -/
def execCrcUpdate (b : Byte) (s : State) : Host.Outcome State Fault Refusal := finish (s.setCrc (crcStep s.crc b))

/-- CRC_FEED (R118). -/
def execCrcFeed (s : State) : Host.Outcome State Fault Refusal := finish (s.setCrc (crcFold s.crc s.inBuf))

/-- CRC_COMPUTE (R119). -/
def execCrcCompute (s : State) : Host.Outcome State Fault Refusal := finish (s.setCrc (crc16 s.inBuf))

/-- CRC_CHECK (R120). -/
def execCrcCheck (s : State) : Host.Outcome State Fault Refusal :=
  if crc16Verify s.inBuf s.opw1 then finish ((s.setResRxCrc s.opw1).setResCalcCrc (crc16 s.inBuf))
  else raise .checksumError s

end Sys2Proof.Machine
end

