-- ==== Sys2Proof/Machine/Stuffing.lean ====
section
/-! DEFINITION. The Byte-Stuffing Codec (spec/42_stuffing.md): `stuff` (R161), `destuff` (R162), the streaming form of
`destuff` (R166), and the two commands (R167, R168). -/

namespace Sys2Proof.Machine

/-- `stuff(s)`: every 0xAA is emitted twice, every other byte once (R161). -/
def stuff : List Byte → List Byte
  | [] => []
  | b :: s => if b = Config.stuffByte then b :: Config.stuffByte :: stuff s else b :: stuff s

/-- `destuff(s)`: one scan from left to right; an adjacent pair 0xAA 0xAA gives one 0xAA, and any other byte, a lone 0xAA
too, is copied (R162). -/
def destuff : List Byte → List Byte
  | [] => []
  | [b] => [b]
  | a :: b :: s =>
    if a = Config.stuffByte ∧ b = Config.stuffByte then Config.stuffByte :: destuff s else a :: destuff (b :: s)

/-- The streaming form of R166, from the flag `pend`. The flag lives for one command only and is no state (R46). -/
def destuffStream (pend : Bool) : List Byte → List Byte
  | [] => if pend then [Config.stuffByte] else []
  | b :: s =>
    if pend then
      if b = Config.stuffByte then Config.stuffByte :: destuffStream false s
      else Config.stuffByte :: b :: destuffStream false s
    else
      if b = Config.stuffByte then destuffStream true s
      else b :: destuffStream false s

/-- STUFF (R167): a result longer than P_MAX_BUF raises OVERFLOW. -/
def execStuff (s : State) : Host.Outcome State Fault Refusal :=
  if s.maxBuf < (stuff s.inBuf).length then raise .overflow s else finish (s.setOut (stuff s.inBuf))

/-- DESTUFF (R168): it cannot fail. -/
def execDestuff (s : State) : Host.Outcome State Fault Refusal := finish (s.setOut (destuff s.inBuf))

end Sys2Proof.Machine
end

