-- ==== Sys2Proof/Machine/Fastech.lean ====
section
/-! DEFINITION. The FASTECH Frame Codec (spec/43_fastech.md): `ft_encode` (R183), `ft_decode` (R185, R186), and the two
commands (R184, R187). -/

namespace Sys2Proof.Machine

/-- `core = [slave, type] ++ payload`, the bytes the CRC covers (R183). -/
def ftCore (slave type : Byte) (payload : List Byte) : List Byte := [slave, type] ++ payload

/-- `body = stuff(core ++ le16(crc))`: stuffing covers the core and both CRC bytes (R182, R183). -/
def ftBody (slave type : Byte) (payload : List Byte) : List Byte :=
  stuff (ftCore slave type payload ++ le16 (crc16 (ftCore slave type payload)))

/-- The frame of `ft_encode`: `HEADER ++ body ++ TAIL` under the profile `p` (R183). -/
def ftFrame (p : Word) (slave type : Byte) (payload : List Byte) : List Byte :=
  header p ++ ftBody slave type payload ++ tail p

/-- The rest of `ft_decode`, on a destuffed body of at least 4 bytes (R186). -/
def ftDecodeBody (body : List Byte) : FrameResult :=
  let n := body.length
  let rxCrc := u16le (byteAt body (n - 2)) (byteAt body (n - 1))
  let calcCrc := crc16 (slice body 0 (n - 2))
  if rxCrc ≠ calcCrc then .error .checksumError
  else .decoded ⟨byteAt body 0, byteAt body 1, slice body 2 (n - 2), rxCrc, calcCrc⟩

/-- `ft_decode(f)` under the profile `p`: length, header and tail, then the destuffed body's length, then its CRC (R185,
R186). -/
def ftDecode (p : Word) (f : List Byte) : FrameResult :=
  let n := f.length
  if n < 4 then .error .frameFormatError
  else if slice f 0 2 ≠ header p ∨ slice f (n - 2) n ≠ tail p then .error .frameFormatError
  else
    let body := destuff (slice f 2 (n - 2))
    if body.length < 4 then .error .checksumError else ftDecodeBody body

/-- FT_ENCODE (R184). -/
def execFtEncode (s : State) : Host.Outcome State Fault Refusal :=
  let frame := ftFrame s.ftProfile s.opa s.opb s.inBuf
  if s.maxBuf < frame.length then raise .overflow s
  else finish ((s.setOut frame).setResCalcCrc (crc16 (ftCore s.opa s.opb s.inBuf)))

/-- FT_DECODE (R187). -/
def execFtDecode (s : State) : Host.Outcome State Fault Refusal := settleFrame (ftDecode s.ftProfile s.inBuf) s

end Sys2Proof.Machine
end

