-- ==== Sys2Proof/Machine/Modbus.lean ====
section
/-! DEFINITION. The Modbus RTU Frame Codec, master side (spec/44_modbus.md): `mb_request` and `mb_check` (R216), how the
host reads register words (R217), and the two commands (R214, R215). -/

namespace Sys2Proof.Machine

/-- The bytes a request's CRC covers: slave, function code, address, quantity or value, big-endian (R210, R65). -/
def mbRequestCore (slave fc : Byte) (addr q : U16) : List Byte := [slave, fc] ++ be16 addr ++ be16 q

/-- The frame of `mb_request`: the CRC is appended low byte first (R216). -/
def mbRequest (slave fc : Byte) (addr q : U16) : List Byte :=
  mbRequestCore slave fc addr q ++ le16 (crc16 (mbRequestCore slave fc addr q))

/-- The end of `mb_check`, once the slave, the function code and the CRC are right: the length against the byte count,
then the byte count against twice the quantity, without wrap-around (0x03, 0x04); the 8-byte length (0x06) (R216). -/
def mbCheckData (f : List Byte) (fc : Byte) (q rxCrc calcCrc : U16) : FrameResult :=
  let n := f.length
  if fc = 0x03 ∨ fc = 0x04 then
    let bc := (byteAt f 2).toNat
    if n ≠ bc + 5 then .error .frameFormatError
    else if bc ≠ 2 * q.toNat then .error .responseMismatch
    else .decoded ⟨byteAt f 0, byteAt f 1, slice f 3 (3 + bc), rxCrc, calcCrc⟩
  else
    if n ≠ 8 then .error .frameFormatError
    else .decoded ⟨byteAt f 0, byteAt f 1, slice f 2 6, rxCrc, calcCrc⟩

/-- `mb_check(f, slave, fc, q)`: the checks in order; the first that fails gives the result (R216). -/
def mbCheck (f : List Byte) (slave fc : Byte) (q : U16) : FrameResult :=
  let n := f.length
  if n < 5 then .error .frameFormatError
  else if byteAt f 0 ≠ slave then .error .responseMismatch
  else if byteAt f 1 ≠ fc then .error .responseMismatch
  else
    let rxCrc := u16le (byteAt f (n - 2)) (byteAt f (n - 1))
    let calcCrc := crc16 (slice f 0 (n - 2))
    if rxCrc ≠ calcCrc then .error .checksumError else mbCheckData f fc q rxCrc calcCrc

/-- Register word `k` of a response, as the host reads it from OUT: `u16be(OUT[2k], OUT[2k+1])` (R217). -/
def registerWord (out : List Byte) (k : Nat) : U16 := u16be (byteAt out (2 * k)) (byteAt out (2 * k + 1))

/-- MB_ENCODE (R214): the function code is checked first (R211). -/
def execMbEncode (s : State) : Host.Outcome State Fault Refusal :=
  if s.opb ∈ Config.functionCodes then
    finish ((s.setOut (mbRequest s.opa s.opb s.opw0 s.opw1)).setResCalcCrc
      (crc16 (mbRequestCore s.opa s.opb s.opw0 s.opw1)))
  else raise .unsupportedFunction s

/-- MB_DECODE (R215): the function code is checked first (R211). -/
def execMbDecode (s : State) : Host.Outcome State Fault Refusal :=
  if s.opb ∈ Config.functionCodes then settleFrame (mbCheck s.inBuf s.opa s.opb s.opw1) s
  else raise .unsupportedFunction s

end Sys2Proof.Machine
end

