-- ==== Sys2Proof/Machine/System.lean ====
section
/-! DEFINITION. The system commands (spec/45_system.md, R240 and R241), and what an illegal word does (30_encoding.md rule
R97). -/

namespace Sys2Proof.Machine

/-- NOP (R240). -/
def execNop (s : State) : Host.Outcome State Fault Refusal := finish s

/-- RESET, the soft reset (R241): the same effect as a hardware reset (R400). STATUS's reset value is OK. -/
def execReset (s : State) : Host.Outcome State Fault Refusal := finish s.resetBlock

/-- An illegal command word: ILLEGAL_COMMAND, whatever the state (R90, R97, R305). -/
def execIllegal (s : State) : Host.Outcome State Fault Refusal := raise .illegalCommand s

end Sys2Proof.Machine
end

