-- ==== Sys2Proof/Machine/Dispatch.lean ====
section
/-! DEFINITION. One arm for each command of Syntax.lean: the execution of a decoded command word (spec/30_encoding.md rule
R90). -/

namespace Sys2Proof.Machine

/-- What a decoded command does (R90): its rule in 40_crc.md to 45_system.md. -/
def exec (i : Instr) (s : State) : Host.Outcome State Fault Refusal :=
  match i with
  | .nop => Sys2Proof.Machine.execNop s
  | .crcInit => Sys2Proof.Machine.execCrcInit s
  | .crcUpdate b => Sys2Proof.Machine.execCrcUpdate b s
  | .crcFeed => Sys2Proof.Machine.execCrcFeed s
  | .crcCompute => Sys2Proof.Machine.execCrcCompute s
  | .crcCheck => Sys2Proof.Machine.execCrcCheck s
  | .bufClear => Sys2Proof.Machine.execBufClear s
  | .bufPush b => Sys2Proof.Machine.execBufPush b s
  | .bufXfer => Sys2Proof.Machine.execBufXfer s
  | .stuff => Sys2Proof.Machine.execStuff s
  | .destuff => Sys2Proof.Machine.execDestuff s
  | .ftEncode => Sys2Proof.Machine.execFtEncode s
  | .ftDecode => Sys2Proof.Machine.execFtDecode s
  | .mbEncode => Sys2Proof.Machine.execMbEncode s
  | .mbDecode => Sys2Proof.Machine.execMbDecode s
  | .reset => Sys2Proof.Machine.execReset s

end Sys2Proof.Machine
end

