-- ==== Sys2Proof/Machine/HostPort.lean ====
section
/-! DEFINITION. The host's port (spec/20_memory.md): the register map (R60), what a read returns and what a write does
(R61, R63), the write to CMD that executes a command (R90), and the serving of one access at a time (R71). -/

namespace Sys2Proof.Machine

/-! ## The address map (R60) -/

/-- The offset of each register (10_state.md section 1). -/
def regOffset : Reg → Nat
  | .cmd => 0x000
  | .status => 0x004
  | .opa => 0x008
  | .opb => 0x00C
  | .opw0 => 0x010
  | .opw1 => 0x014
  | .crc => 0x018
  | .resId => 0x01C
  | .resCrc => 0x020
  | .inLen => 0x024
  | .outLen => 0x028
  | .ftProfile => 0x02C
  | .caps => 0x030

/-- The registers, in the order of their offsets. -/
def registers : List Reg :=
  [.cmd, .status, .opa, .opb, .opw0, .opw1, .crc, .resId, .resCrc, .inLen, .outLen, .ftProfile, .caps]

/-- What an aligned offset names (R60): a register, a word of a window, or a reserved offset. -/
def targetOf (offset : Nat) : Target :=
  match registers.find? (fun r => regOffset r == offset) with
  | some r => .reg r
  | none =>
    if 0x1000 ≤ offset ∧ offset < 0x2000 then .inWindow ((offset - 0x1000) / 4)
    else if 0x2000 ≤ offset ∧ offset < 0x3000 then .outWindow ((offset - 0x2000) / 4)
    else .reserved

/-! ## Reads (R61, R63) -/

/-- What a host read of a register returns, every bit the register does not define as 0 (R32 to R44, R61). -/
def readReg (s : State) : Reg → Word
  | .cmd => 0
  | .status => s.status.setWidth 32
  | .opa => s.opa.setWidth 32
  | .opb => s.opb.setWidth 32
  | .opw0 => s.opw0.setWidth 32
  | .opw1 => s.opw1.setWidth 32
  | .crc => s.crc.setWidth 32
  | .resId => (s.resType.setWidth 32 <<< 8) ||| s.resSlave.setWidth 32
  | .resCrc => (s.resCalcCrc.setWidth 32 <<< 16) ||| s.resRxCrc.setWidth 32
  | .inLen => (BitVec.ofNat 11 s.inBuf.length).setWidth 32
  | .outLen => (BitVec.ofNat 11 s.outBuf.length).setWidth 32
  | .ftProfile => s.ftProfile
  | .caps => (Config.interfaceVersion.setWidth 32 <<< 16) ||| (BitVec.ofNat 16 s.maxBuf).setWidth 32

/-- Word `i` of a buffer's window: the byte, zero-extended, and 0 past the buffer's length (R63). -/
def readWindow (buf : List Byte) (i : Nat) : Word :=
  if i < buf.length then (byteAt buf i).setWidth 32 else 0

/-- What a host read of an offset returns (R61). It changes nothing of the block (R69). -/
def readTarget (s : State) : Target → Word
  | .reg r => readReg s r
  | .inWindow i => readWindow s.inBuf i
  | .outWindow i => readWindow s.outBuf i
  | .reserved => 0

/-! ## Writes (R61, R90) -/

/-- A host write of a word to CMD executes one command (R44, R90). -/
def writeCmd (w : Word) (s : State) : Host.Outcome State Fault Refusal :=
  match decode w with
  | .command i => exec i s
  | .illegal _ => execIllegal s

/-- A host write to a register (R61): CMD executes a command; a read/write register stores the bits it defines; a
read-only register ignores the write. -/
def writeReg (r : Reg) (v : Word) (s : State) : Host.Outcome State Fault Refusal :=
  match r with
  | .cmd => writeCmd v s
  | .opa => .next (s.setOpa (v.setWidth 8))
  | .opb => .next (s.setOpb (v.setWidth 8))
  | .opw0 => .next (s.setOpw0 (v.setWidth 16))
  | .opw1 => .next (s.setOpw1 (v.setWidth 16))
  | .ftProfile => .next (s.setProfile v)
  | .status => .next s
  | .crc => .next s
  | .resId => .next s
  | .resCrc => .next s
  | .inLen => .next s
  | .outLen => .next s
  | .caps => .next s

/-- A host write to an offset: windows and reserved offsets ignore it (R60, R61). -/
def writeTarget (t : Target) (v : Word) (s : State) : Host.Outcome State Fault Refusal :=
  match t with
  | .reg r => writeReg r v s
  | .inWindow _ => .next s
  | .outWindow _ => .next s
  | .reserved => .next s

/-! ## Serving an access (R60, R61, R71) -/

/-- The checks every access passes before the block serves it at the offset it names: inside the 16 KiB space (R60), 4
bytes wide, at a multiple of 4 (R61, I4). -/
def atOffset (s : State) (addr width : Nat) (k : Nat → Host.Outcome State Fault Refusal) :
    Host.Outcome State Fault Refusal :=
  if addr < s.base ∨ s.base + Config.spaceSize ≤ addr then .fault (.outsideSpace addr)
  else if width ≠ 4 then .refused (.accessWidth width)
  else if (addr - s.base) % 4 ≠ 0 then .refused (.misalignedAccess (addr - s.base))
  else k (addr - s.base)

/-- One event, served completely (R68, R71). -/
def serve (e : BusEvent) (s : State) : Host.Outcome State Fault Refusal :=
  match e with
  | .read addr width => atOffset s addr width (fun o => .next (s.setRdata (readTarget s (targetOf o))))
  | .write addr width v => atOffset s addr width (fun o => writeTarget (targetOf o) v s)
  | .hardwareReset => .next s.resetBlock

/-- The block's next event: it takes the first one on the bus and serves it before any other (R71). With none on the bus it
keeps its state (R325): nothing in the block moves by itself (R31, R46). -/
def serveNext (s : State) : Host.Outcome State Fault Refusal :=
  match s.bus with
  | [] => .next s
  | e :: es => serve e (s.setBus es)

/-- A host write of a command word to CMD, put before every other access (R44, R90). -/
def withCommandWrite (s : State) (w : Word) : State :=
  s.setBus (.write (s.base + regOffset .cmd) 4 w :: s.bus)

end Sys2Proof.Machine
end

