-- ==== Sys2Proof/Machine/Step.lean ====
section
/-! DEFINITION. The step function: one host access, or one reset, served completely (spec/20_memory.md rule R71). The block
fetches no instructions (R74): a command runs when the host writes its word to CMD (R90), so `withFetchWord` is that
write. -/

namespace Sys2Proof.Machine

/-- One step of the block: the next event on its bus (R71). -/
def step (s : State) : Host.Outcome State Fault Refusal := serveNext s

/-- `s` with a host write of the command word to CMD as its very next event. The word's low `nbits` bits are `w` and every
bit above them is 0; nothing but the bus changes. -/
def State.withFetchWord (s : State) (nbits w : Nat) : State := withCommandWrite s (tableWord nbits w)

end Sys2Proof.Machine
end

