-- ==== Sys2Proof/Machine/Assembler.lean ====
section
/-! DEFINITION. Assembly syntax and pseudo-instructions (spec/30_encoding.md rules R99 and R100): the host actions a line
can hold, the bus accesses each stands for, and the reading of a line of text. -/

namespace Sys2Proof.Machine

/-! ## Host actions -/

/-- What one line of assembly holds: a command, a host register access, a raw command word (R99), or a pseudo-instruction
(R100). -/
inductive HostAction where
  /-- a mnemonic, with its byte operand for CRC_UPDATE and BUF_PUSH -/
  | command (i : Instr)
  /-- `WR <register>, <value>` -/
  | wr (r : Reg) (v : Word)
  /-- `RD <register>` -/
  | rd (r : Reg)
  /-- `RD IN[i]` -/
  | rdIn (i : Nat)
  /-- `RD OUT[i]` -/
  | rdOut (i : Nat)
  /-- `.word <w>`, the same as `WR CMD, w` -/
  | rawWord (w : Word)
  /-- `LOADIN b0, b1, ..., bn`, or `LOADIN` alone -/
  | loadIn (bs : List Byte)
  /-- `CRCBYTES b0, ..., bn` -/
  | crcBytes (bs : List Byte)
  /-- `SETFT s, t` -/
  | setFt (s t : Word)
  /-- `SETMB s, f, a, q` -/
  | setMb (s f a q : Word)
  /-- `LOOPBACK` -/
  | loopback
deriving DecidableEq, Repr

/-- A 32-bit host write to a register of the block at `base`. -/
def regWrite (base : Nat) (r : Reg) (v : Word) : BusEvent := .write (base + regOffset r) 4 v

/-- A command written to CMD. -/
def cmdWrite (base : Nat) (i : Instr) : BusEvent := regWrite base .cmd (encode i)

/-- The accesses of `LOADIN` (R100): BUF_CLEAR, then a BUF_PUSH of each byte. -/
def loadInAccesses (base : Nat) (bs : List Byte) : List BusEvent :=
  cmdWrite base .bufClear :: bs.map (fun b => cmdWrite base (.bufPush b))

/-- The accesses of `CRCBYTES` (R100): CRC_INIT, then a CRC_UPDATE of each byte. -/
def crcBytesAccesses (base : Nat) (bs : List Byte) : List BusEvent :=
  cmdWrite base .crcInit :: bs.map (fun b => cmdWrite base (.crcUpdate b))

/-- The bus accesses each host action stands for, in order (R99, R100). -/
def accessesOf (base : Nat) : HostAction → List BusEvent
  | .command i => [cmdWrite base i]
  | .wr r v => [regWrite base r v]
  | .rd r => [.read (base + regOffset r) 4]
  | .rdIn i => [.read (base + (0x1000 + 4 * i)) 4]
  | .rdOut i => [.read (base + (0x2000 + 4 * i)) 4]
  | .rawWord w => [regWrite base .cmd w]
  | .loadIn bs => loadInAccesses base bs
  | .crcBytes bs => crcBytesAccesses base bs
  | .setFt s t => [regWrite base .opa s, regWrite base .opb t]
  | .setMb s f a q => [regWrite base .opa s, regWrite base .opb f, regWrite base .opw0 a, regWrite base .opw1 q]
  | .loopback => [cmdWrite base .bufXfer]

/-! ## Reading a line of text (R99) -/

/-- A word gathered so far, backwards, as a token. -/
def flushToken (acc : List Char) : List String :=
  if acc.isEmpty then [] else [String.ofList acc.reverse]

/-- The tokens of a line: `;` starts a comment, white space separates, and a comma or a bracket stands alone. -/
def tokens : List Char → List Char → List String
  | [], acc => flushToken acc
  | c :: cs, acc =>
    if c = ';' then flushToken acc
    else if c = ' ' ∨ c = '\t' then flushToken acc ++ tokens cs []
    else if c = ',' ∨ c = '[' ∨ c = ']' then flushToken acc ++ String.singleton c :: tokens cs []
    else tokens cs (c :: acc)

/-- The digits, each at the place of its value: the first ten are the decimal digits, all sixteen the hex ones (R99). -/
def digitChars : List Char := "0123456789ABCDEF".toList

/-- The value of a digit, decimal or hex: its place among the digits. Hex letters are read in either case (DESIGN CHOICE,
notes/assumptions/8.md). -/
def digitValue (c : Char) : Option Nat := digitChars.idxOf? c.toUpper

/-- The digits of a number in a radix, from a value so far. -/
def digitsValue (radix : Nat) : List Char → Nat → Option Nat
  | [], n => some n
  | c :: cs, n =>
    match digitValue c with
    | some d => if d < radix then digitsValue radix cs (radix * n + d) else none
    | none => none

/-- A number: decimal, or hex with `0x` (R99). -/
def numberOf (t : String) : Option Nat :=
  match t.toList with
  | [] => none
  | '0' :: 'x' :: [] => none
  | '0' :: 'x' :: cs => digitsValue 16 cs 0
  | cs => digitsValue 10 cs 0

/-- A number that is a byte. -/
def byteOf (t : String) : Option Byte :=
  match numberOf t with
  | some n => if byteWellFormed n then some (BitVec.ofNat 8 n) else none
  | none => none

/-- A number that is a 32-bit word: the value of `WR` and of `.word`, and an operand of SETFT and SETMB. It is a literal
number; R99 does not say what a value may be, so that is the model's choice (DESIGN CHOICE, notes/assumptions/8.md). -/
def wordOf (t : String) : Option Word :=
  match numberOf t with
  | some n => if n < 2 ^ 32 then some (BitVec.ofNat 32 n) else none
  | none => none

/-- An index into a window. -/
def indexOf (t : String) : Option Nat :=
  match numberOf t with
  | some n => if n < Config.windowWords then some n else none
  | none => none

/-- The name of each register, as 10_state.md spells it. -/
def regName : Reg → String
  | .cmd => "CMD"
  | .status => "STATUS"
  | .opa => "OPA"
  | .opb => "OPB"
  | .opw0 => "OPW0"
  | .opw1 => "OPW1"
  | .crc => "CRC"
  | .resId => "RES_ID"
  | .resCrc => "RES_CRC"
  | .inLen => "IN_LEN"
  | .outLen => "OUT_LEN"
  | .ftProfile => "FT_PROFILE"
  | .caps => "CAPS"

/-- The register of a name. -/
def regOf (t : String) : Option Reg := registers.find? (fun r => regName r == t)

/-- The commands written as a mnemonic alone (R99). -/
def plainCommands : List Instr :=
  [.nop, .crcInit, .crcFeed, .crcCompute, .crcCheck, .bufClear, .bufXfer, .stuff, .destuff, .ftEncode, .ftDecode,
   .mbEncode, .mbDecode, .reset]

/-- One or more bytes between commas. -/
def byteList : List String → Option (List Byte)
  | [t] => (byteOf t).map (fun b => [b])
  | t :: "," :: ts =>
    match byteOf t, byteList ts with
    | some b, some bs => some (b :: bs)
    | _, _ => none
  | _ => none

/-- The host action of a line's tokens; none where the line is not of the syntax (R99, R100). The `<value>` of `WR` is a
literal number and nothing else: R99 leaves open what it may be, and `WR OPW1, CRC`, as 95_test_vectors.md V-SRC-4 writes
a host that copies what it read from CRC, is refused, since its value is known only once the read is served (DESIGN
CHOICE, notes/assumptions/8.md). A host does it with `RD CRC` and then a `WR` of the number it got. -/
def actionOf : List String → Option HostAction
  | ["LOADIN"] => some (.loadIn [])
  | "LOADIN" :: ts => (byteList ts).map .loadIn
  | "CRCBYTES" :: ts => (byteList ts).map .crcBytes
  | ["LOOPBACK"] => some .loopback
  | ["SETFT", s, ",", t] =>
    match wordOf s, wordOf t with
    | some s, some t => some (.setFt s t)
    | _, _ => none
  | ["SETMB", s, ",", f, ",", a, ",", q] =>
    match wordOf s, wordOf f, wordOf a, wordOf q with
    | some s, some f, some a, some q => some (.setMb s f a q)
    | _, _, _, _ => none
  | ["WR", r, ",", v] =>
    match regOf r, wordOf v with
    | some r, some v => some (.wr r v)
    | _, _ => none
  | ["RD", r] => (regOf r).map .rd
  | ["RD", "IN", "[", i, "]"] => (indexOf i).map .rdIn
  | ["RD", "OUT", "[", i, "]"] => (indexOf i).map .rdOut
  | [".word", w] => (wordOf w).map .rawWord
  | ["CRC_UPDATE", b] => (byteOf b).map (fun b => .command (.crcUpdate b))
  | ["BUF_PUSH", b] => (byteOf b).map (fun b => .command (.bufPush b))
  | [m] => (plainCommands.find? (fun i => mnemonic i == m)).map .command
  | _ => none

/-- The accesses of one line: none of its own for a blank line or a comment, and a refusal of the text (`none`) for a line
that is not of the syntax (R99). -/
def assembleLine (base : Nat) (line : String) : Option (List BusEvent) :=
  match tokens line.toList [] with
  | [] => some []
  | ts => (actionOf ts).map (accessesOf base)

/-- The accesses of a text, line by line (R99). -/
def assemble (base : Nat) : List String → Option (List BusEvent)
  | [] => some []
  | l :: ls =>
    match assembleLine base l, assemble base ls with
    | some xs, some ys => some (xs ++ ys)
    | _, _ => none

end Sys2Proof.Machine
end

