-- ==== Sys2Proof/Machine/Links.lean ====
section
/-! DEFINITION. Several block instances, one for each serial link (spec/10_state.md rule R49, 60_exceptions.md rule R323): a
list of states that share nothing. A model of two links is two copies of the state, and each moves by itself; which
one moves next is the platform's choice (R72). -/

namespace Sys2Proof.Machine

/-- One step of instance `k` of a list of instances. An index with no instance moves nothing. -/
def stepInstance (k : Nat) (links : List State) : Host.Outcome (List State) Fault Refusal :=
  match links[k]? with
  | none => .next links
  | some s =>
    match step s with
    | .next t => .next (links.set k t)
    | .fault f => .fault f
    | .refused r => .refused r

end Sys2Proof.Machine
end

