-- ==== Sys2Proof/Safety.lean ====
section
/-! DEFINITION. What counts as a good state and a safe run, in the terms the statements use. A step is safe when it goes
on; the block reports every error of a command in STATUS and goes on (spec/60_exceptions.md rules R311, R312), so only
an access the block does not define can stop the machine. -/

namespace Sys2Proof.Machine

/-- A good state: the capacity is one the spec allows (R7), neither buffer exceeds it (R143), and STATUS is one of the
seven codes (R300). -/
def State.Good (s : State) : Prop :=
  Config.minCapacity ≤ s.maxBuf ∧ s.maxBuf ≤ Config.maxCapacity ∧ Memory.wf s ∧ s.status ∈ statusValues

/-- A step that goes on: no fault and no refusal. -/
def Continues (o : Host.Outcome State Fault Refusal) : Prop := ∃ t, o = .next t

/-- Every access still to come is one the block defines (R60, R61), or a reset. -/
def State.BusDefined (s : State) : Prop := ∀ e ∈ s.bus, e.wellFormed s.base = true

/-- A safe run of `n` steps: no step stops. -/
def SafeRun (n : Nat) (s : State) : Prop :=
  match n with
  | 0 => True
  | n + 1 => ∃ t, step s = .next t ∧ SafeRun n t

end Sys2Proof.Machine
end

