-- ==== Sys2Proof/Certificates/Slice0/Obligations.lean ====
section
/-! DEFINITION. The statements for the provers. Each names the rule of spec/ it formalises; OBLIGATIONS.json lists them.
The helpers of Sys2Proof.Claims only shorten the statements. -/

open Sys2Proof Sys2Proof.Machine

namespace Sys2Proof.Claims

/-- A host read of 4 bytes at offset `o`, as the next access of any state, returns the word `v` computes and changes nothing
else. The word stands in `rdata`, the model's own field (notes/assumptions/5.md). -/
def readGives (o : Nat) (v : State → Word) : Prop :=
  ∀ (s : State) (rest : List BusEvent),
    step { s with bus := .read (s.base + o) 4 :: rest } = .next { s with bus := rest, rdata := some (v s) }

/-- A host write of 4 bytes at offset `o`, as the next access of any state, does to the state what `f` says. -/
def writeGives (o : Nat) (f : Word → State → State) : Prop :=
  ∀ (s : State) (rest : List BusEvent) (v : Word),
    step { s with bus := .write (s.base + o) 4 v :: rest } = .next (f v { s with bus := rest })

/-- A host write of 4 bytes at offset `o` is ignored. -/
def writeIgnored (o : Nat) : Prop := writeGives o (fun _ s => s)

/-- The byte sequence with one bit inverted: bit `k % 8` of the byte at index `k / 8`. -/
def flipBit (s : List Byte) (k : Nat) : List Byte := s.modify (k / 8) (fun b => b ^^^ (1 <<< (k % 8)))

/-- The word of a command with an immediate byte: `OP | (IMM8 << 8)` (R99). -/
def immWord (op : Word) (b : Byte) : Word := op ||| (b.setWidth 32 <<< 8)

/-- One step of the CRC with the unreflected polynomial 0x8005 (R115 (a)): most significant bit first. -/
def crcBitMsb (c : U16) : U16 := if c.getMsbD 0 then (c <<< 1) ^^^ 0x8005 else c <<< 1

/-- The most-significant-bit-first CRC of a byte whose bits are reflected first. -/
def crcStepMsb (c : U16) (b : Byte) : U16 := crcBitMsb^[8] (c ^^^ (b.reverse.setWidth 16 <<< 8))

/-- A maximal run: `k` bytes 0xAA between `pre`, which does not end with 0xAA, and `post`, which does not begin with it. -/
def isRun (pre post : List Byte) : Prop := pre.getLast? ≠ some 0xAA ∧ post.head? ≠ some 0xAA

/-- MB_DECODE completes from the state and leaves this code in STATUS. -/
def mbDecodeReports (s : State) (code : Byte) : Prop := ∃ t, exec .mbDecode s = .next t ∧ t.status = code

/-- The codes each command can report: OK, and those of its checks (R300, R305). -/
def reportable : Instr → List StatusCode
  | .nop => [.ok]
  | .crcInit => [.ok]
  | .crcUpdate _ => [.ok]
  | .crcFeed => [.ok]
  | .crcCompute => [.ok]
  | .crcCheck => [.ok, .checksumError]
  | .bufClear => [.ok]
  | .bufPush _ => [.ok, .overflow]
  | .bufXfer => [.ok]
  | .stuff => [.ok, .overflow]
  | .destuff => [.ok]
  | .ftEncode => [.ok, .overflow]
  | .ftDecode => [.ok, .frameFormatError, .checksumError]
  | .mbEncode => [.ok, .unsupportedFunction]
  | .mbDecode => [.ok, .frameFormatError, .checksumError, .responseMismatch, .unsupportedFunction]
  | .reset => [.ok]

end Sys2Proof.Claims

open Sys2Proof.Claims

/-! ## Encoding (30_encoding.md) -/

/-- Decoding and encoding agree in both directions: every well-formed command is read back from its word, and every word
that decodes to a command is that command's word, so no bit of a word is dropped (30_encoding.md sections 3 and 6). -/
def Obligations.DecodeAndEncodeAgree : Prop :=
  (∀ i : Instr, i.wellFormed = true → decode (encode i) = .command i) ∧
  (∀ (w : Word) (i : Instr), decode w = .command i → encode i = w)

/-- R95, R96: a word decodes to a row's command exactly when `(w & mask) = match`, with IMM8 = w[15:8], and no two rows
match the same word. -/
def Obligations.DecodeFollowsOpcodeMap : Prop :=
  ∀ w : Word,
    (decode w = .command .nop ↔ w &&& 0xFFFFFFFF = 0x00000000) ∧
    (decode w = .command .crcInit ↔ w &&& 0xFFFFFFFF = 0x00000001) ∧
    (∀ b, decode w = .command (.crcUpdate b) ↔ w &&& 0xFFFF00FF = 0x00000002 ∧ b = w.extractLsb' 8 8) ∧
    (decode w = .command .crcFeed ↔ w &&& 0xFFFFFFFF = 0x00000003) ∧
    (decode w = .command .crcCompute ↔ w &&& 0xFFFFFFFF = 0x00000004) ∧
    (decode w = .command .crcCheck ↔ w &&& 0xFFFFFFFF = 0x00000005) ∧
    (decode w = .command .bufClear ↔ w &&& 0xFFFFFFFF = 0x00000010) ∧
    (∀ b, decode w = .command (.bufPush b) ↔ w &&& 0xFFFF00FF = 0x00000011 ∧ b = w.extractLsb' 8 8) ∧
    (decode w = .command .bufXfer ↔ w &&& 0xFFFFFFFF = 0x00000012) ∧
    (decode w = .command .stuff ↔ w &&& 0xFFFFFFFF = 0x00000020) ∧
    (decode w = .command .destuff ↔ w &&& 0xFFFFFFFF = 0x00000021) ∧
    (decode w = .command .ftEncode ↔ w &&& 0xFFFFFFFF = 0x00000030) ∧
    (decode w = .command .ftDecode ↔ w &&& 0xFFFFFFFF = 0x00000031) ∧
    (decode w = .command .mbEncode ↔ w &&& 0xFFFFFFFF = 0x00000040) ∧
    (decode w = .command .mbDecode ↔ w &&& 0xFFFFFFFF = 0x00000041) ∧
    (decode w = .command .reset ↔ w &&& 0xFFFFFFFF = 0x000000F0) ∧
    (rows.filter (rowMatches w)).length ≤ 1

/-- A few words written out from R91 and R95 decode to the commands they stand for. -/
def Obligations.SampleWordsDecode : Prop :=
  decode 0x00000000 = .command .nop ∧ decode 0x00008302 = .command (.crcUpdate 0x83) ∧
  decode 0x0000AA11 = .command (.bufPush 0xAA) ∧ decode 0x00000021 = .command .destuff ∧
  decode 0x00000031 = .command .ftDecode ∧ decode 0x00000041 = .command .mbDecode ∧
  decode 0x000000F0 = .command .reset

/-- R97: exactly the words of (a), (b) and (c) are illegal, and executing one sets STATUS to 0x01 and changes nothing
else. -/
def Obligations.IllegalWordsAreExactlyThese : Prop :=
  ∀ w : Word,
    ((∃ why, decode w = .illegal why) ↔
      (∃ lo hi : Nat, (lo, hi) ∈ [(0x06, 0x0F), (0x13, 0x1F), (0x22, 0x2F), (0x32, 0x3F), (0x42, 0xEF), (0xF1, 0xFF)] ∧
        lo ≤ (w.extractLsb' 0 8).toNat ∧ (w.extractLsb' 0 8).toNat ≤ hi) ∨
      w.extractLsb' 16 16 ≠ 0 ∨
      (w.extractLsb' 0 8 ≠ 0x02 ∧ w.extractLsb' 0 8 ≠ 0x11 ∧ w.extractLsb' 8 8 ≠ 0)) ∧
    ((∃ why, decode w = .illegal why) → ∀ (s : State) (rest : List BusEvent),
      step { s with bus := .write s.base 4 w :: rest } = .next { s with bus := rest, status := 0x01 })

/-- R90: a host write of `w` to CMD executes the command `w` decodes to, or raises ILLEGAL_COMMAND, before the block
serves the next access. -/
def Obligations.StepRunsTheDecodedCommand : Prop :=
  ∀ (s : State) (rest : List BusEvent) (w : Word), s.bus = .write (s.base + 0x000) 4 w :: rest →
    (∀ i, decode w = .command i → step s = exec i { s with bus := rest }) ∧
    (∀ why, decode w = .illegal why → step s = .next { s with bus := rest, status := 0x01 })

/-! ## System commands and reset (45_system.md, 70_reset_and_hazards.md) -/

/-- R240: NOP sets STATUS to OK and changes nothing else. -/
def Obligations.NopOnlySetsStatus : Prop :=
  decode 0x00000000 = .command .nop ∧ ∀ s : State, exec .nop s = .next { s with status := 0x00 }

/-- RESET puts every register and both buffers at their reset values (45_system.md, RESET; 10_state.md section 5). That the
base address, the accesses still to come and the host's read word are kept is the model's reading
(notes/assumptions/6.md). -/
def Obligations.ResetRestoresEveryRegister : Prop :=
  decode 0x000000F0 = .command .reset ∧
  ∀ s : State, exec .reset s = .next { s with
    status := 0x00, opa := 0x00, opb := 0x00, opw0 := 0x0000, opw1 := 0x0000, crc := 0xFFFF,
    resSlave := 0x00, resType := 0x00, resRxCrc := 0x0000, resCalcCrc := 0x0000, inBuf := [], outBuf := [],
    ftProfile := 0xEEAACCAA }

/-- The hardware reset and the RESET command have the same effect, in one step, from every state
(70_reset_and_hazards.md section 1). That the accesses still to come, the base address and the host's read word are kept is
the model's reading (notes/assumptions/6.md). -/
def Obligations.HardwareResetEqualsSoftReset : Prop :=
  ∀ (s : State) (rest : List BusEvent), s.bus = .hardwareReset :: rest →
    step s = exec .reset { s with bus := rest } ∧ step s = .next { s with
      status := 0x00, opa := 0x00, opb := 0x00, opw0 := 0x0000, opw1 := 0x0000, crc := 0xFFFF,
      resSlave := 0x00, resType := 0x00, resRxCrc := 0x0000, resCalcCrc := 0x0000, inBuf := [], outBuf := [],
      ftProfile := 0xEEAACCAA, bus := rest }

/-- What the commands give from the reset state, for every capacity and base address the spec allows
(70_reset_and_hazards.md section 1). -/
def Obligations.CommandsAfterReset : Prop :=
  ∀ n base : Nat, 16 ≤ n → n ≤ 1024 →
    exec .mbEncode (State.resetWith n base) = .next { State.resetWith n base with status := 0x13 } ∧
    exec .mbDecode (State.resetWith n base) = .next { State.resetWith n base with status := 0x13 } ∧
    exec .ftEncode (State.resetWith n base) = .next { State.resetWith n base with
      outBuf := [0xAA, 0xCC, 0x00, 0x00, 0x01, 0xB0, 0xAA, 0xEE], resCalcCrc := 0xB001 } ∧
    exec .ftDecode (State.resetWith n base) = .next { State.resetWith n base with status := 0x10 } ∧
    exec .stuff (State.resetWith n base) = .next (State.resetWith n base) ∧
    exec .destuff (State.resetWith n base) = .next (State.resetWith n base)

/-! ## Checksum Unit (40_crc.md) -/

/-- R110: the byte is XORed into the low byte, which leaves the high byte alone, and then eight iterations test bit 0,
shift right and XOR with 0xA001 if it was set. -/
def Obligations.CrcStepIsTheBitLoop : Prop :=
  ∀ (c : U16) (b : Byte),
    crcStep c b = (fun x : U16 => if x.getLsbD 0 then (x >>> 1) ^^^ 0xA001 else x >>> 1)^[8] (c ^^^ b.setWidth 16) ∧
    (c ^^^ b.setWidth 16).extractLsb' 8 8 = c.extractLsb' 8 8

/-- R111: the CRC of no bytes is the seed 0xFFFF, and each further byte is one step, first byte first, with nothing after
the last byte. -/
def Obligations.CrcTakesBytesInOrderFromSeed : Prop :=
  crc16 [] = 0xFFFF ∧ ∀ (s : List Byte) (b : Byte), crc16 (s ++ [b]) = crcStep (crc16 s) b

/-- R112: verification holds exactly for the computed CRC. -/
def Obligations.CrcVerifyAcceptsExactlyTheCrc : Prop :=
  (∀ (s : List Byte) (c : U16), crc16Verify s c = true ↔ crc16 s = c) ∧
  (∀ s : List Byte, crc16Verify s (crc16 s) = true)

/-- R116. -/
def Obligations.CrcInitSetsSeed : Prop :=
  decode 0x00000001 = .command .crcInit ∧
  ∀ s : State, exec .crcInit s = .next { s with crc := 0xFFFF, status := 0x00 }

/-- R117: the byte of the command word is one step of the accumulator; nothing else changes but STATUS. -/
def Obligations.CrcUpdateFeedsTheImmediate : Prop :=
  (∀ b : Byte, decode (immWord 0x00000002 b) = .command (.crcUpdate b)) ∧
  ∀ (b : Byte) (s : State), exec (.crcUpdate b) s = .next { s with crc := crcStep s.crc b, status := 0x00 }

/-- CRC_FEED feeds every byte of IN, in order, from the accumulator's value (40_crc.md section 3). That two feeds equal one
feed of both sequences is a sentence the spec itself marks as derived (from R114). -/
def Obligations.CrcFeedContinuesOverIn : Prop :=
  decode 0x00000003 = .command .crcFeed ∧
  (∀ s : State, exec .crcFeed s = .next { s with crc := s.inBuf.foldl crcStep s.crc, status := 0x00 }) ∧
  (∀ (s : State) (a b : List Byte) (t : State), exec .crcFeed { s with inBuf := a } = .next t →
    exec .crcFeed { t with inBuf := b } = .next { s with inBuf := b, crc := (a ++ b).foldl crcStep s.crc, status := 0x00 })

/-- R119. -/
def Obligations.CrcComputeIsCrcOfIn : Prop :=
  decode 0x00000004 = .command .crcCompute ∧
  ∀ s : State, exec .crcCompute s = .next { s with crc := crc16 s.inBuf, status := 0x00 }

/-- R120: CRC_CHECK records both values when they agree, reports CHECKSUM_ERROR when they do not, and touches the
accumulator in neither case. -/
def Obligations.CrcCheckComparesWithOpw1 : Prop :=
  decode 0x00000005 = .command .crcCheck ∧
  (∀ s : State, crc16 s.inBuf = s.opw1 →
    exec .crcCheck s = .next { s with resRxCrc := s.opw1, resCalcCrc := crc16 s.inBuf, status := 0x00 }) ∧
  (∀ s : State, crc16 s.inBuf ≠ s.opw1 → exec .crcCheck s = .next { s with status := 0x11 })

/-- The residue: a sequence followed by its own CRC, low byte first, has CRC 0 (40_crc.md section 2, "Residue"). -/
def Obligations.CrcResidueIsZero : Prop :=
  ∀ s : List Byte, crc16 (s ++ le16 (crc16 s)) = 0x0000

/-- The right-shifting loop is the reflected form of the polynomial 0x8005 (40_crc.md section 2, the spec's own reading,
93_implementation_defined.md G1). -/
def Obligations.CrcIsReflected8005 : Prop :=
  ∀ s : List Byte, (crc16 s).reverse = s.foldl crcStepMsb 0xFFFF

/-- Every single-bit error is detected: inverting one bit of a sequence changes its CRC (40_crc.md section 2, from general
knowledge, 93_implementation_defined.md G3). -/
def Obligations.CrcDetectsEverySingleBitError : Prop :=
  ∀ (s : List Byte) (k : Nat), k < 8 * s.length → crc16 (flipBit s k) ≠ crc16 s

/-! ## Buffer commands (41_buffer.md) -/

/-- R140. -/
def Obligations.BufClearEmptiesIn : Prop :=
  decode 0x00000010 = .command .bufClear ∧
  ∀ s : State, exec .bufClear s = .next { s with inBuf := [], status := 0x00 }

/-- R141: a byte is appended unchanged; a full IN reports OVERFLOW and stays as it was. -/
def Obligations.BufPushAppendsOrOverflows : Prop :=
  (∀ b : Byte, decode (immWord 0x00000011 b) = .command (.bufPush b)) ∧
  (∀ (b : Byte) (s : State), s.inBuf.length ≠ s.maxBuf →
    exec (.bufPush b) s = .next { s with inBuf := s.inBuf ++ [b], status := 0x00 }) ∧
  (∀ (b : Byte) (s : State), s.inBuf.length = s.maxBuf → exec (.bufPush b) s = .next { s with status := 0x02 })

/-- R142. -/
def Obligations.BufXferMovesOutToIn : Prop :=
  decode 0x00000012 = .command .bufXfer ∧
  ∀ s : State, exec .bufXfer s = .next { s with inBuf := s.outBuf, outBuf := [], status := 0x00 }

/-! ## Byte stuffing (42_stuffing.md) -/

/-- R161, R162: the two scans. `stuff` emits each byte, and 0xAA a second time; `destuff` consumes an adjacent pair of 0xAA
as one and copies every other byte. -/
def Obligations.StuffAndDestuffScan : Prop :=
  stuff [] = [] ∧
  (∀ (s : List Byte) (b : Byte), stuff (s ++ [b]) = stuff s ++ [b] ++ (if b = 0xAA then [0xAA] else [])) ∧
  destuff [] = [] ∧
  (∀ s : List Byte, destuff (0xAA :: 0xAA :: s) = 0xAA :: destuff s) ∧
  (∀ (b : Byte) (s : List Byte), ¬ (b = 0xAA ∧ s.head? = some 0xAA) → destuff (b :: s) = b :: destuff s)

/-- R167: STUFF writes the stuffed IN to OUT, or reports OVERFLOW when it exceeds the capacity; its length is that of IN and
one more for each 0xAA. -/
def Obligations.StuffCommand : Prop :=
  decode 0x00000020 = .command .stuff ∧
  (∀ s : State, (stuff s.inBuf).length ≤ s.maxBuf →
    exec .stuff s = .next { s with outBuf := stuff s.inBuf, status := 0x00 }) ∧
  (∀ s : State, s.maxBuf < (stuff s.inBuf).length → exec .stuff s = .next { s with status := 0x02 }) ∧
  (∀ s : State, (stuff s.inBuf).length = s.inBuf.length + s.inBuf.count 0xAA)

/-- R168: DESTUFF writes the destuffed IN to OUT, which is never longer than IN. -/
def Obligations.DestuffCommand : Prop :=
  decode 0x00000021 = .command .destuff ∧
  (∀ s : State, exec .destuff s = .next { s with outBuf := destuff s.inBuf, status := 0x00 }) ∧
  (∀ t : List Byte, (destuff t).length ≤ t.length)

/-- The stuffing inverse, for every byte sequence and through the commands: STUFF, BUF_XFER, DESTUFF leave OUT equal to the
IN they started from (42_stuffing.md section 2, "Inverse"). -/
def Obligations.DestuffUndoesStuff : Prop :=
  (∀ x : List Byte, destuff (stuff x) = x) ∧
  (∀ s : State, (stuff s.inBuf).length ≤ s.maxBuf → ∃ a b : State,
    exec .stuff s = .next a ∧ exec .bufXfer a = .next b ∧
    exec .destuff b = .next { s with inBuf := stuff s.inBuf, outBuf := s.inBuf, status := 0x00 })

/-- Lengths: `stuff` adds one byte for each 0xAA; `destuff` at most halves; a maximal run of `k` bytes 0xAA becomes
`ceil(k/2)` (42_stuffing.md section 2, "Lengths"). -/
def Obligations.StuffingLengthsAndRuns : Prop :=
  (∀ s : List Byte, (stuff s).length = s.length + s.count 0xAA) ∧
  (∀ t : List Byte, (t.length + 1) / 2 ≤ (destuff t).length ∧ (destuff t).length ≤ t.length) ∧
  (∀ (pre post : List Byte) (k : Nat), isRun pre post →
    destuff (pre ++ List.replicate k 0xAA ++ post) = destuff pre ++ List.replicate ((k + 1) / 2) 0xAA ++ destuff post)

/-- What `stuff` can produce: a sequence is an output of `stuff` exactly when each of its maximal runs of 0xAA has even
length, and exactly then `stuff` undoes `destuff` (42_stuffing.md section 2). -/
def Obligations.StuffOutputsAreEvenRuns : Prop :=
  ∀ t : List Byte,
    ((∃ s, stuff s = t) ↔
      ∀ (pre post : List Byte) (k : Nat), isRun pre post → t = pre ++ List.replicate k 0xAA ++ post → k % 2 = 0) ∧
    ((∃ s, stuff s = t) ↔ stuff (destuff t) = t)

/-- The one-bit streaming form computes `destuff` on every input (42_stuffing.md section 2). -/
def Obligations.StreamingDestuffIsDestuff : Prop :=
  ∀ s : List Byte, destuffStream false s = destuff s

/-! ## FASTECH frames (43_fastech.md) -/

/-- R183, R184: the frame is the header, the stuffed core and CRC, and the tail; it goes to OUT and its CRC to
RES_CALCCRC, unless it is longer than the capacity. -/
def Obligations.FtEncodeBuildsTheFrame : Prop :=
  decode 0x00000030 = .command .ftEncode ∧
  ∀ s : State,
    let core := [s.opa, s.opb] ++ s.inBuf
    let crc := crc16 core
    let frame := [s.ftProfile.extractLsb' 0 8, s.ftProfile.extractLsb' 8 8] ++
      stuff (core ++ [crc.extractLsb' 0 8, crc.extractLsb' 8 8]) ++
      [s.ftProfile.extractLsb' 16 8, s.ftProfile.extractLsb' 24 8]
    (frame.length ≤ s.maxBuf → exec .ftEncode s = .next { s with outBuf := frame, resCalcCrc := crc, status := 0x00 }) ∧
    (s.maxBuf < frame.length → exec .ftEncode s = .next { s with status := 0x02 })

/-- The length of a frame: 8 bytes, the payload, and one more for each 0xAA of the stuffed region (43_fastech.md section
2). -/
def Obligations.FtFrameLength : Prop :=
  ∀ (p : Word) (slave type : Byte) (payload : List Byte),
    (ftFrame p slave type payload).length =
      8 + payload.length + (ftCore slave type payload ++ le16 (crc16 (ftCore slave type payload))).count 0xAA

/-- What `ft_decode` answers: a header or tail that does not match, or fewer than 4 bytes, is a format error and nothing
else is; the frame decodes exactly when its destuffed middle is slave, type, payload and their CRC, low byte first;
otherwise it is a checksum error (43_fastech.md section 2). -/
def Obligations.FtDecodeOutcomes : Prop :=
  ∀ (p : Word) (f : List Byte),
    (ftDecode p f = .error .frameFormatError ↔ ¬ ∃ mid, f = header p ++ mid ++ tail p) ∧
    (∀ (slave type : Byte) (payload : List Byte) (crc : U16),
      ftDecode p f = .decoded ⟨slave, type, payload, crc, crc⟩ ↔
        ∃ mid, f = header p ++ mid ++ tail p ∧ destuff mid = [slave, type] ++ payload ++ le16 crc ∧
          crc = crc16 ([slave, type] ++ payload)) ∧
    (∀ r, ftDecode p f = .decoded r → r.rxCrc = r.calcCrc) ∧
    (∀ c, ftDecode p f = .error c → c = .frameFormatError ∨ c = .checksumError)

/-- R187: FT_DECODE writes the fields of a good frame, and only STATUS for a bad one. -/
def Obligations.FtDecodeCommand : Prop :=
  decode 0x00000031 = .command .ftDecode ∧
  (∀ (s : State) (r : FrameFields), ftDecode s.ftProfile s.inBuf = .decoded r →
    exec .ftDecode s = .next { s with
      resSlave := r.slave, resType := r.type, resRxCrc := r.rxCrc, resCalcCrc := r.calcCrc, outBuf := r.data,
      status := 0x00 }) ∧
  (∀ s : State, ftDecode s.ftProfile s.inBuf = .error .frameFormatError →
    exec .ftDecode s = .next { s with status := 0x10 }) ∧
  (∀ s : State, ftDecode s.ftProfile s.inBuf = .error .checksumError →
    exec .ftDecode s = .next { s with status := 0x11 })

/-- The frame round trip: FT_ENCODE, BUF_XFER, FT_DECODE give back the slave, the type and the payload, for every profile
and every payload whose frame fits (43_fastech.md section 4, "Frame round trip"). -/
def Obligations.FastechFrameRoundTrip : Prop :=
  ∀ s : State, (ftFrame s.ftProfile s.opa s.opb s.inBuf).length ≤ s.maxBuf → ∃ a b c : State,
    exec .ftEncode s = .next a ∧ exec .bufXfer a = .next b ∧ exec .ftDecode b = .next c ∧
    c.status = 0x00 ∧ c.resSlave = s.opa ∧ c.resType = s.opb ∧ c.outBuf = s.inBuf ∧
    c.resRxCrc = crc16 ([s.opa, s.opb] ++ s.inBuf) ∧ c.resCalcCrc = c.resRxCrc

/-- One inverted bit between the header and the tail of an encoded frame never makes a format error, and leaves the
destuffed body as long as it was or exactly one byte longer (43_fastech.md section 4, "Tamper detection"). -/
def Obligations.FlippedBodyBitKeepsTheFrame : Prop :=
  ∀ (p : Word) (slave type : Byte) (payload : List Byte) (k : Nat),
    16 ≤ k → k < 8 * ((ftFrame p slave type payload).length - 2) →
    (ftDecode p (flipBit (ftFrame p slave type payload) k) ≠ .error .frameFormatError) ∧
    (destuff (ftBody slave type payload)).length ≤ (destuff (flipBit (ftBody slave type payload) (k - 16))).length ∧
    (destuff (flipBit (ftBody slave type payload) (k - 16))).length ≤ (destuff (ftBody slave type payload)).length + 1

/-- One inverted bit of an encoded frame's body that leaves the destuffed body the same length is always detected: the
decode fails with CHECKSUM_ERROR (43_fastech.md section 4, "Tamper detection", with the general knowledge of G3). -/
def Obligations.FlippedBodyBitIsDetected : Prop :=
  ∀ (p : Word) (slave type : Byte) (payload : List Byte) (k : Nat), k < 8 * (ftBody slave type payload).length →
    (destuff (flipBit (ftBody slave type payload) k)).length = (destuff (ftBody slave type payload)).length →
    ftDecode p (header p ++ flipBit (ftBody slave type payload) k ++ tail p) = .error .checksumError

/-- A frame encoded under one profile and decoded under another fails with FRAME_FORMAT_ERROR unless the header and tail
bytes agree, and then it decodes to what was encoded (43_fastech.md section 4, 70_reset_and_hazards.md section 3). -/
def Obligations.ProfilesMustAgree : Prop :=
  ∀ (p q : Word) (slave type : Byte) (payload : List Byte),
    (¬ (header p = header q ∧ tail p = tail q) →
      ftDecode q (ftFrame p slave type payload) = .error .frameFormatError) ∧
    (header p = header q ∧ tail p = tail q →
      ftDecode q (ftFrame p slave type payload) = .decoded ⟨slave, type, payload,
        crc16 ([slave, type] ++ payload), crc16 ([slave, type] ++ payload)⟩)

/-! ## Modbus RTU (44_modbus.md) -/

/-- R214, with the request's layout written out byte by byte (R210): big-endian address and quantity or value, CRC low
byte first. -/
def Obligations.MbEncodeBuildsTheRequest : Prop :=
  decode 0x00000040 = .command .mbEncode ∧
  (∀ s : State, s.opb = 0x03 ∨ s.opb = 0x04 ∨ s.opb = 0x06 →
    let core := [s.opa, s.opb, s.opw0.extractLsb' 8 8, s.opw0.extractLsb' 0 8, s.opw1.extractLsb' 8 8,
      s.opw1.extractLsb' 0 8]
    let crc := crc16 core
    exec .mbEncode s = .next { s with
      outBuf := core ++ [crc.extractLsb' 0 8, crc.extractLsb' 8 8], resCalcCrc := crc, status := 0x00 }) ∧
  (∀ s : State, s.opb ≠ 0x03 → s.opb ≠ 0x04 → s.opb ≠ 0x06 → exec .mbEncode s = .next { s with status := 0x13 })

/-- R215: MB_DECODE reports an unsupported function code first, then what `mb_check` answers. -/
def Obligations.MbDecodeCommand : Prop :=
  decode 0x00000041 = .command .mbDecode ∧
  (∀ s : State, s.opb ≠ 0x03 → s.opb ≠ 0x04 → s.opb ≠ 0x06 → exec .mbDecode s = .next { s with status := 0x13 }) ∧
  (∀ (s : State) (r : FrameFields), s.opb = 0x03 ∨ s.opb = 0x04 ∨ s.opb = 0x06 →
    mbCheck s.inBuf s.opa s.opb s.opw1 = .decoded r →
    exec .mbDecode s = .next { s with
      resSlave := r.slave, resType := r.type, resRxCrc := r.rxCrc, resCalcCrc := r.calcCrc, outBuf := r.data,
      status := 0x00 }) ∧
  (∀ (s : State) (c : StatusCode), s.opb = 0x03 ∨ s.opb = 0x04 ∨ s.opb = 0x06 →
    mbCheck s.inBuf s.opa s.opb s.opw1 = .error c → exec .mbDecode s = .next { s with status := c.code })

/-- Exactly which responses MB_DECODE accepts, and what it then writes: for 0x03 and 0x04, the slave and function code
echoed, a byte count equal to twice the quantity and to the number of data bytes, and the CRC of all of it low byte
first; for 0x06, the 8-byte echo; for any other function code none. The first clause of each part says when STATUS ends
OK, whatever else is written; the second says with which next state (44_modbus.md sections 1 and 2). -/
def Obligations.MbDecodeAcceptsExactly : Prop :=
  (∀ s : State, s.opb = 0x03 ∨ s.opb = 0x04 →
    let core (data : List Byte) := [s.opa, s.opb, BitVec.ofNat 8 data.length] ++ data
    let response (data : List Byte) :=
      data.length = 2 * s.opw1.toNat ∧ data.length < 256 ∧ s.inBuf = core data ++ le16 (crc16 (core data))
    (mbDecodeReports s 0x00 ↔ ∃ data, response data) ∧
    ∀ data, exec .mbDecode s = .next { s with
        resSlave := s.opa, resType := s.opb, resRxCrc := crc16 (core data), resCalcCrc := crc16 (core data),
        outBuf := data, status := 0x00 } ↔ response data) ∧
  (∀ s : State, s.opb = 0x06 →
    let core (data : List Byte) := [s.opa, s.opb] ++ data
    let response (data : List Byte) := data.length = 4 ∧ s.inBuf = core data ++ le16 (crc16 (core data))
    (mbDecodeReports s 0x00 ↔ ∃ data, response data) ∧
    ∀ data, exec .mbDecode s = .next { s with
        resSlave := s.opa, resType := s.opb, resRxCrc := crc16 (core data), resCalcCrc := crc16 (core data),
        outBuf := data, status := 0x00 } ↔ response data) ∧
  (∀ s : State, s.opb ≠ 0x03 → s.opb ≠ 0x04 → s.opb ≠ 0x06 → ¬ mbDecodeReports s 0x00)

/-- The code MB_DECODE reports for every response, each check in its order (44_modbus.md section 2, 60_exceptions.md section
2): unsupported function code, fewer than 5 bytes, slave echo, function code echo, CRC, length (8 for 0x06, the byte
count + 5 otherwise), byte count against twice the quantity. Then the consequences of that order: no response decodes for
a quantity over 127; an exception response and a frame from another slave are mismatches, whatever their CRC; a valid
CRC with a byte count that disagrees with the length is a format error (44_modbus.md section 4). -/
def Obligations.MbCheckConsequences : Prop :=
  (∀ s : State,
    let n := s.inBuf.length
    let bc := (s.inBuf.getD 2 0).toNat
    mbDecodeReports s
      (if s.opb ≠ 0x03 ∧ s.opb ≠ 0x04 ∧ s.opb ≠ 0x06 then 0x13
       else if n < 5 then 0x10
       else if s.inBuf.getD 0 0 ≠ s.opa then 0x12
       else if s.inBuf.getD 1 0 ≠ s.opb then 0x12
       else if s.inBuf.drop (n - 2) ≠ le16 (crc16 (s.inBuf.take (n - 2))) then 0x11
       else if s.opb = 0x06 then (if n ≠ 8 then 0x10 else 0x00)
       else if n ≠ bc + 5 then 0x10
       else if bc ≠ 2 * s.opw1.toNat then 0x12
       else 0x00)) ∧
  (∀ (s : State) (t : State), s.opb = 0x03 ∨ s.opb = 0x04 → 127 < s.opw1.toNat → exec .mbDecode s = .next t →
    t.status = 0x10 ∨ t.status = 0x11 ∨ t.status = 0x12) ∧
  (∀ (f : List Byte) (slave fc : Byte) (q : U16), fc = 0x03 ∨ fc = 0x04 ∨ fc = 0x06 → 5 ≤ f.length →
    f.getD 1 0 = fc ||| 0x80 → mbCheck f slave fc q = .error .responseMismatch) ∧
  (∀ (f : List Byte) (slave fc : Byte) (q : U16), 5 ≤ f.length → f.getD 0 0 ≠ slave →
    mbCheck f slave fc q = .error .responseMismatch) ∧
  (∀ (data : List Byte) (slave fc bc : Byte) (q : U16), fc = 0x03 ∨ fc = 0x04 → bc.toNat ≠ data.length →
    mbCheck ([slave, fc, bc] ++ data ++ le16 (crc16 ([slave, fc, bc] ++ data))) slave fc q = .error .frameFormatError)

/-- No single-bit error passes MB_DECODE: inverting any one bit of an accepted response makes it fail (44_modbus.md section
2, with the general knowledge of G3). -/
def Obligations.ModbusDetectsEverySingleBitError : Prop :=
  ∀ (s t : State) (k : Nat), exec .mbDecode s = .next t → t.status = 0x00 → k < 8 * s.inBuf.length →
    ∃ u, exec .mbDecode { s with inBuf := flipBit s.inBuf k } = .next u ∧ u.status ≠ 0x00

/-- A write request looped back decodes: MB_ENCODE of function code 0x06, BUF_XFER, MB_DECODE end OK with the address and
the value in OUT, big-endian, and OPW0 and OPW1 are not compared: any values give the same answer (44_modbus.md
sections 1 and 4). -/
def Obligations.MbWriteEchoRoundTrip : Prop :=
  ∀ s : State, s.opb = 0x06 → ∃ a b : State,
    exec .mbEncode s = .next a ∧ exec .bufXfer a = .next b ∧
    ∀ x y : U16, ∃ c : State, exec .mbDecode { b with opw0 := x, opw1 := y } = .next c ∧
      c.status = 0x00 ∧ c.resSlave = s.opa ∧ c.resType = 0x06 ∧ c.outBuf = be16 s.opw0 ++ be16 s.opw1

/-! ## Status, failure and frames (60_exceptions.md, 30_encoding.md section 5) -/

/-- R302: a command that fails, an illegal word too, writes STATUS and nothing else. -/
def Obligations.FailedCommandChangesOnlyStatus : Prop :=
  ∀ (w : Word) (s t : State) (rest : List BusEvent), s.bus = .write (s.base + 0x000) 4 w :: rest → step s = .next t →
    t.status ≠ 0x00 → t = { s with bus := rest, status := t.status }

/-- Every command completes from every state and reports one of the codes of its own checks; the commands with no check
always report OK (60_exceptions.md sections 1 to 3). -/
def Obligations.EveryCommandCompletesWithItsCodes : Prop :=
  ∀ (i : Instr) (s : State), ∃ t, exec i s = .next t ∧ t.status ∈ (reportable i).map StatusCode.code

/-- What each command writes and reads (30_encoding.md section 5): it writes only what its row lists (and STATUS alone when
it fails), and what it writes depends only on what its row reads, the capacity and its immediate. That RESET too keeps
`base`, `bus` and `rdata` is the model's reading (notes/assumptions/6.md). -/
def Obligations.CommandsReadAndWriteOnlyTheirRow : Prop :=
  (∀ (i : Instr) (s t : State), exec i s = .next t →
    (∀ l, l ∉ writes i → agreesAt s t l) ∧ (t.status ≠ 0x00 → ∀ l, l ≠ .status → agreesAt s t l) ∧
    t.maxBuf = s.maxBuf ∧ t.base = s.base ∧ t.bus = s.bus ∧ t.rdata = s.rdata) ∧
  (∀ (i : Instr) (s s' t t' : State), (∀ l ∈ reads i, agreesAt s s' l) → s.maxBuf = s'.maxBuf →
    exec i s = .next t → exec i s' = .next t' →
    t.status = t'.status ∧ (t.status = 0x00 → ∀ l ∈ writes i, agreesAt t t' l))

/-! ## Invariants and safe runs -/

/-- Every step keeps a good state good: the capacity is one the spec allows, neither buffer exceeds it, and STATUS holds
one of the seven codes (41_buffer.md, "Capacity"; 60_exceptions.md section 1). The statement is about every access, the
hardware reset and the idle block too. -/
def Obligations.StepKeepsGoodStates : Prop :=
  ∀ s t : State, s.Good → step s = .next t → t.Good

/-- The reset state is good, for every capacity the spec allows and every base address (10_state.md section 5). -/
def Obligations.ResetStateIsGood : Prop :=
  ∀ n base : Nat, 16 ≤ n → n ≤ 1024 → (State.resetWith n base).Good

/-- Nothing the block defines ever stops it: while every access on the bus is one the block defines, or a reset, every
number of steps is safe, whatever the commands and their errors (60_exceptions.md sections 3 and 4). -/
def Obligations.DefinedAccessesNeverStop : Prop :=
  ∀ (n : Nat) (s : State), s.BusDefined → SafeRun n s

/-- Accesses are served one at a time, in order: a step takes the first one and leaves the rest, and a block with no access
waiting stays as it is (20_memory.md section 5). Two points are the model's: that an idle block takes a step at all
(notes/assumptions/3.md), and that a hardware reset leaves the accesses that wait and the base address
(notes/assumptions/6.md). -/
def Obligations.AccessesServedInOrder : Prop :=
  (∀ (s t : State) (e : BusEvent) (rest : List BusEvent), s.bus = e :: rest → step s = .next t →
    t.bus = rest ∧ t.maxBuf = s.maxBuf ∧ t.base = s.base) ∧
  (∀ s : State, s.bus = [] → step s = .next s)

/-! ## The host's port (20_memory.md, 10_state.md) -/

/-- Reads return the registers with undefined bits 0, and the words of the windows with 0 past the buffer's length; writes
reach the five read/write registers and store the bits they define; writes to the others and to the windows are ignored;
a write to CMD executes the command its word decodes to, or sets STATUS to 0x01 alone where the word is illegal; an access
of another width or at an offset that is not a multiple of 4 is refused (20_memory.md section 1; 30_encoding.md for the
illegal words). The reserved offsets are in ReservedOffsetsReadZero. Two points are the model's: the word a read returns
stands in `rdata` (notes/assumptions/5.md), and in states beyond an allowed capacity, which no run from a reset reaches,
IN_LEN, OUT_LEN and CAPS show the low 11, 11 and 16 bits (notes/assumptions/12.md). -/
def Obligations.HostAccessRules : Prop :=
  (readGives 0x000 (fun _ => 0) ∧
   readGives 0x004 (fun s => s.status.setWidth 32) ∧
   readGives 0x008 (fun s => s.opa.setWidth 32) ∧
   readGives 0x00C (fun s => s.opb.setWidth 32) ∧
   readGives 0x010 (fun s => s.opw0.setWidth 32) ∧
   readGives 0x014 (fun s => s.opw1.setWidth 32) ∧
   readGives 0x018 (fun s => s.crc.setWidth 32) ∧
   readGives 0x01C (fun s => BitVec.ofNat 32 (s.resSlave.toNat + 2 ^ 8 * s.resType.toNat)) ∧
   readGives 0x020 (fun s => BitVec.ofNat 32 (s.resRxCrc.toNat + 2 ^ 16 * s.resCalcCrc.toNat)) ∧
   readGives 0x024 (fun s => BitVec.ofNat 32 (s.inBuf.length % 2 ^ 11)) ∧
   readGives 0x028 (fun s => BitVec.ofNat 32 (s.outBuf.length % 2 ^ 11)) ∧
   readGives 0x02C (fun s => s.ftProfile) ∧
   readGives 0x030 (fun s => BitVec.ofNat 32 (0x00010000 + s.maxBuf % 2 ^ 16)) ∧
   ∀ i, i < 1024 →
    readGives (0x1000 + 4 * i) (fun s => if h : i < s.inBuf.length then (s.inBuf[i]).setWidth 32 else 0) ∧
    readGives (0x2000 + 4 * i) (fun s => if h : i < s.outBuf.length then (s.outBuf[i]).setWidth 32 else 0)) ∧
  (writeGives 0x008 (fun v s => { s with opa := v.extractLsb' 0 8 }) ∧
   writeGives 0x00C (fun v s => { s with opb := v.extractLsb' 0 8 }) ∧
   writeGives 0x010 (fun v s => { s with opw0 := v.extractLsb' 0 16 }) ∧
   writeGives 0x014 (fun v s => { s with opw1 := v.extractLsb' 0 16 }) ∧
   writeGives 0x02C (fun v s => { s with ftProfile := v })) ∧
  (writeIgnored 0x004 ∧ writeIgnored 0x018 ∧ writeIgnored 0x01C ∧ writeIgnored 0x020 ∧ writeIgnored 0x024 ∧
   writeIgnored 0x028 ∧ writeIgnored 0x030 ∧ ∀ i, i < 1024 → writeIgnored (0x1000 + 4 * i) ∧ writeIgnored (0x2000 + 4 * i)) ∧
  (∀ (s : State) (rest : List BusEvent) (w : Word),
    (∀ i, decode w = .command i →
      step { s with bus := .write (s.base + 0x000) 4 w :: rest } = exec i { s with bus := rest }) ∧
    (∀ why, decode w = .illegal why →
      step { s with bus := .write (s.base + 0x000) 4 w :: rest } = .next { s with bus := rest, status := 0x01 })) ∧
  (∀ (s : State) (rest : List BusEvent) (o width : Nat) (v : Word), o < 0x4000 → width ≠ 4 ∨ o % 4 ≠ 0 →
    (∃ r, step { s with bus := .read (s.base + o) width :: rest } = .refused r) ∧
    (∃ r, step { s with bus := .write (s.base + o) width v :: rest } = .refused r))

/-- Word `i` of a window is the buffer's byte, zero-extended, and 0 past the buffer's length; the read changes nothing of the
block (20_memory.md section 1). That the word it returns stands in `rdata` is the model's choice
(notes/assumptions/5.md). -/
def Obligations.WindowsShowTheBuffers : Prop :=
  ∀ i, i < 1024 →
    readGives (0x1000 + 4 * i) (fun s => if h : i < s.inBuf.length then (s.inBuf[i]).setWidth 32 else 0) ∧
    readGives (0x2000 + 4 * i) (fun s => if h : i < s.outBuf.length then (s.outBuf[i]).setWidth 32 else 0)

/-- The reserved offsets read 0 and ignore writes (20_memory.md section 1). That the 0 stands in `rdata` is the model's choice
(notes/assumptions/5.md). -/
def Obligations.ReservedOffsetsReadZero : Prop :=
  ∀ o : Nat, o % 4 = 0 → (0x0034 ≤ o ∧ o < 0x1000) ∨ (0x3000 ≤ o ∧ o < 0x4000) →
    readGives o (fun _ => 0) ∧ writeIgnored o

/-- An access outside the 16 KiB space of the instance stops with a fault that names its address. The fault is the model's
choice (notes/assumptions/4.md): the spec gives no such access a meaning. -/
def Obligations.AccessOutsideTheSpaceFaults : Prop :=
  ∀ (s : State) (rest : List BusEvent) (addr width : Nat) (v : Word), addr < s.base ∨ s.base + 0x4000 ≤ addr →
    (s.bus = .read addr width :: rest → step s = .fault (.outsideSpace addr)) ∧
    (s.bus = .write addr width v :: rest → step s = .fault (.outsideSpace addr))

/-- Every read is free of side effects and idempotent, a second write of a read/write register's value changes nothing, and a
write to CMD is not idempotent: two BUF_PUSH writes append two bytes (20_memory.md section 3). That the word a read returns
stands in `rdata` is the model's choice (notes/assumptions/5.md). -/
def Obligations.ReadsHaveNoSideEffects : Prop :=
  (∀ (s : State) (o : Nat) (rest : List BusEvent), o < 0x4000 → o % 4 = 0 → ∃ v : Word,
    step { s with bus := .read (s.base + o) 4 :: rest } = .next { s with bus := rest, rdata := some v } ∧
    ∀ (x : Option Word) (rest' : List BusEvent),
      step { s with bus := .read (s.base + o) 4 :: rest', rdata := x } = .next { s with bus := rest', rdata := some v }) ∧
  (∀ (s t : State) (o : Nat) (v : Word) (rest : List BusEvent), o ∈ [0x008, 0x00C, 0x010, 0x014, 0x02C] →
    s.bus = .write (s.base + o) 4 v :: .write (s.base + o) 4 v :: rest → step s = .next t →
    step t = .next { t with bus := rest }) ∧
  (∀ (s : State) (a b : Byte) (rest : List BusEvent), s.inBuf.length + 1 < s.maxBuf →
    Host.Core.run core 2 { s with bus := .write s.base 4 (immWord 0x11 a) :: .write s.base 4 (immWord 0x11 b) :: rest } =
      .next { s with bus := rest, inBuf := s.inBuf ++ [a, b], status := 0x00 })

/-! ## Pseudo-instructions and instances (30_encoding.md section 6, 10_state.md section 5) -/

/-- LOADIN loads IN and reports overflow: from any state, its accesses leave in IN the bytes that fit, in order, and STATUS
is OVERFLOW exactly when some push overflowed (30_encoding.md section 6). -/
def Obligations.LoadInFillsInAndReportsOverflow : Prop :=
  ∀ (s : State) (bs : List Byte) (rest : List BusEvent),
    Host.Core.run core (bs.length + 1) { s with bus := accessesOf s.base (.loadIn bs) ++ rest } =
      .next { s with bus := rest, inBuf := bs.take s.maxBuf, status := if s.maxBuf < bs.length then 0x02 else 0x00 }

/-- CRCBYTES streams the CRC: from any state, its accesses leave the CRC of the bytes in the accumulator and change nothing
else but STATUS (30_encoding.md section 6, 40_crc.md section 3). -/
def Obligations.CrcBytesStreamsTheCrc : Prop :=
  ∀ (s : State) (bs : List Byte) (rest : List BusEvent),
    Host.Core.run core (bs.length + 1) { s with bus := accessesOf s.base (.crcBytes bs) ++ rest } =
      .next { s with bus := rest, crc := crc16 bs, status := 0x00 }

/-- SETFT and SETMB write the operand registers and leave STATUS alone; LOOPBACK moves OUT into IN (30_encoding.md section
6). -/
def Obligations.SetAndLoopbackExpand : Prop :=
  ∀ (s : State) (x f a q : Word) (rest : List BusEvent),
    Host.Core.run core 2 { s with bus := accessesOf s.base (.setFt x f) ++ rest } =
      .next { s with bus := rest, opa := x.setWidth 8, opb := f.setWidth 8 } ∧
    Host.Core.run core 4 { s with bus := accessesOf s.base (.setMb x f a q) ++ rest } =
      .next { s with bus := rest, opa := x.setWidth 8, opb := f.setWidth 8, opw0 := a.setWidth 16, opw1 := q.setWidth 16 } ∧
    Host.Core.run core 1 { s with bus := accessesOf s.base .loopback ++ rest } =
      .next { s with bus := rest, inBuf := s.outBuf, outBuf := [], status := 0x00 }

/-- Instances share nothing: a step of one instance of a list moves that instance as it would move alone and leaves every
other one as it was (10_state.md section 5, 60_exceptions.md section 4). -/
def Obligations.InstancesShareNothing : Prop :=
  ∀ (k : Nat) (links : List State) (s t : State), links[k]? = some s → step s = .next t →
    ∃ links', stepInstance k links = .next links' ∧ links'[k]? = some t ∧ links'.length = links.length ∧
      ∀ j, j ≠ k → links'[j]? = links[j]?
end

