-- ==== Sys2Proof/Laws/Codec.lean ====
section
/-! SUPPORT. The small lemmas of the codec's functions: the equations of the CRC fold, the two scans and the slices, so that
no proof unfolds them again. -/

namespace Sys2Proof.Machine

/-! ## The CRC -/

@[simp] theorem crcFold_nil (c : U16) : crcFold c [] = c := rfl

@[simp] theorem crcFold_cons (c : U16) (b : Byte) (s : List Byte) : crcFold c (b :: s) = crcFold (crcStep c b) s := rfl

/-- Any split of a sequence into parts fed in order gives the CRC of the whole. -/
theorem crcFold_append (c : U16) (s t : List Byte) : crcFold c (s ++ t) = crcFold (crcFold c s) t := by
  simp [crcFold]

theorem crc16_append (s t : List Byte) : crc16 (s ++ t) = crcFold (crc16 s) t := crcFold_append _ s t

/-! ## The scans -/

@[simp] theorem stuff_nil : stuff [] = [] := rfl

@[simp] theorem stuff_cons_aa (s : List Byte) : stuff (0xAA#8 :: s) = 0xAA#8 :: 0xAA#8 :: stuff s := by
  simp [stuff, Config.stuffByte]

theorem stuff_cons_ne (b : Byte) (s : List Byte) (h : b ≠ 0xAA#8) : stuff (b :: s) = b :: stuff s :=
  if_neg (show ¬ b = Config.stuffByte from h)

@[simp] theorem destuff_nil : destuff [] = [] := rfl

@[simp] theorem destuff_single (b : Byte) : destuff [b] = [b] := rfl

@[simp] theorem destuff_pair (s : List Byte) : destuff (0xAA#8 :: 0xAA#8 :: s) = 0xAA#8 :: destuff s := by
  simp [destuff, Config.stuffByte]

theorem destuff_cons_ne (b : Byte) (s : List Byte) (h : b ≠ 0xAA#8) : destuff (b :: s) = b :: destuff s := by
  cases s with
  | nil => rfl
  | cons c s => exact if_neg (fun hb => h hb.1)

/-! ## Slices and two-byte values -/

@[simp] theorem slice_length (s : List Byte) (i j : Nat) : (slice s i j).length = min (j - i) (s.length - i) := by
  simp [slice]

@[simp] theorem le16_length (v : U16) : (le16 v).length = 2 := rfl

@[simp] theorem be16_length (v : U16) : (be16 v).length = 2 := rfl

@[simp] theorem header_length (p : Word) : (header p).length = 2 := rfl

@[simp] theorem tail_length (p : Word) : (tail p).length = 2 := rfl

/-- The two bytes of `le16` read back as the value. -/
theorem u16le_le16 (v : U16) : u16le (lowByte v) (highByte v) = v := by
  ext i h
  simp only [u16le, lowByte, highByte, BitVec.getElem_or, BitVec.getElem_setWidth, BitVec.getElem_shiftLeft,
    BitVec.getLsbD_extractLsb']
  by_cases h8 : i < 8
  · simp [h8, BitVec.getLsbD_eq_getElem h]
  · have e : 8 + (i - 8) = i := by omega
    have l : i - 8 < 8 := by omega
    simp [h8, e, l, BitVec.getLsbD_eq_getElem h]

end Sys2Proof.Machine
end

