-- ==== Sys2Proof/Laws/State.lean ====
section
/-! SUPPORT. What each update of the state does to each field: one lemma per field per update. -/

namespace Sys2Proof.Machine.State

variable (s : State)

@[simp] theorem setStatus_status (c : StatusCode) : (s.setStatus c).status = c.code := rfl
@[simp] theorem setStatus_opa (c : StatusCode) : (s.setStatus c).opa = s.opa := rfl
@[simp] theorem setStatus_opb (c : StatusCode) : (s.setStatus c).opb = s.opb := rfl
@[simp] theorem setStatus_opw0 (c : StatusCode) : (s.setStatus c).opw0 = s.opw0 := rfl
@[simp] theorem setStatus_opw1 (c : StatusCode) : (s.setStatus c).opw1 = s.opw1 := rfl
@[simp] theorem setStatus_crc (c : StatusCode) : (s.setStatus c).crc = s.crc := rfl
@[simp] theorem setStatus_resSlave (c : StatusCode) : (s.setStatus c).resSlave = s.resSlave := rfl
@[simp] theorem setStatus_resType (c : StatusCode) : (s.setStatus c).resType = s.resType := rfl
@[simp] theorem setStatus_resRxCrc (c : StatusCode) : (s.setStatus c).resRxCrc = s.resRxCrc := rfl
@[simp] theorem setStatus_resCalcCrc (c : StatusCode) : (s.setStatus c).resCalcCrc = s.resCalcCrc := rfl
@[simp] theorem setStatus_inBuf (c : StatusCode) : (s.setStatus c).inBuf = s.inBuf := rfl
@[simp] theorem setStatus_outBuf (c : StatusCode) : (s.setStatus c).outBuf = s.outBuf := rfl
@[simp] theorem setStatus_ftProfile (c : StatusCode) : (s.setStatus c).ftProfile = s.ftProfile := rfl
@[simp] theorem setStatus_maxBuf (c : StatusCode) : (s.setStatus c).maxBuf = s.maxBuf := rfl
@[simp] theorem setStatus_base (c : StatusCode) : (s.setStatus c).base = s.base := rfl
@[simp] theorem setStatus_bus (c : StatusCode) : (s.setStatus c).bus = s.bus := rfl
@[simp] theorem setStatus_rdata (c : StatusCode) : (s.setStatus c).rdata = s.rdata := rfl

@[simp] theorem setOpa_status (v : Byte) : (s.setOpa v).status = s.status := rfl
@[simp] theorem setOpa_opa (v : Byte) : (s.setOpa v).opa = v := rfl
@[simp] theorem setOpa_opb (v : Byte) : (s.setOpa v).opb = s.opb := rfl
@[simp] theorem setOpa_opw0 (v : Byte) : (s.setOpa v).opw0 = s.opw0 := rfl
@[simp] theorem setOpa_opw1 (v : Byte) : (s.setOpa v).opw1 = s.opw1 := rfl
@[simp] theorem setOpa_crc (v : Byte) : (s.setOpa v).crc = s.crc := rfl
@[simp] theorem setOpa_resSlave (v : Byte) : (s.setOpa v).resSlave = s.resSlave := rfl
@[simp] theorem setOpa_resType (v : Byte) : (s.setOpa v).resType = s.resType := rfl
@[simp] theorem setOpa_resRxCrc (v : Byte) : (s.setOpa v).resRxCrc = s.resRxCrc := rfl
@[simp] theorem setOpa_resCalcCrc (v : Byte) : (s.setOpa v).resCalcCrc = s.resCalcCrc := rfl
@[simp] theorem setOpa_inBuf (v : Byte) : (s.setOpa v).inBuf = s.inBuf := rfl
@[simp] theorem setOpa_outBuf (v : Byte) : (s.setOpa v).outBuf = s.outBuf := rfl
@[simp] theorem setOpa_ftProfile (v : Byte) : (s.setOpa v).ftProfile = s.ftProfile := rfl
@[simp] theorem setOpa_maxBuf (v : Byte) : (s.setOpa v).maxBuf = s.maxBuf := rfl
@[simp] theorem setOpa_base (v : Byte) : (s.setOpa v).base = s.base := rfl
@[simp] theorem setOpa_bus (v : Byte) : (s.setOpa v).bus = s.bus := rfl
@[simp] theorem setOpa_rdata (v : Byte) : (s.setOpa v).rdata = s.rdata := rfl

@[simp] theorem setOpb_status (v : Byte) : (s.setOpb v).status = s.status := rfl
@[simp] theorem setOpb_opa (v : Byte) : (s.setOpb v).opa = s.opa := rfl
@[simp] theorem setOpb_opb (v : Byte) : (s.setOpb v).opb = v := rfl
@[simp] theorem setOpb_opw0 (v : Byte) : (s.setOpb v).opw0 = s.opw0 := rfl
@[simp] theorem setOpb_opw1 (v : Byte) : (s.setOpb v).opw1 = s.opw1 := rfl
@[simp] theorem setOpb_crc (v : Byte) : (s.setOpb v).crc = s.crc := rfl
@[simp] theorem setOpb_resSlave (v : Byte) : (s.setOpb v).resSlave = s.resSlave := rfl
@[simp] theorem setOpb_resType (v : Byte) : (s.setOpb v).resType = s.resType := rfl
@[simp] theorem setOpb_resRxCrc (v : Byte) : (s.setOpb v).resRxCrc = s.resRxCrc := rfl
@[simp] theorem setOpb_resCalcCrc (v : Byte) : (s.setOpb v).resCalcCrc = s.resCalcCrc := rfl
@[simp] theorem setOpb_inBuf (v : Byte) : (s.setOpb v).inBuf = s.inBuf := rfl
@[simp] theorem setOpb_outBuf (v : Byte) : (s.setOpb v).outBuf = s.outBuf := rfl
@[simp] theorem setOpb_ftProfile (v : Byte) : (s.setOpb v).ftProfile = s.ftProfile := rfl
@[simp] theorem setOpb_maxBuf (v : Byte) : (s.setOpb v).maxBuf = s.maxBuf := rfl
@[simp] theorem setOpb_base (v : Byte) : (s.setOpb v).base = s.base := rfl
@[simp] theorem setOpb_bus (v : Byte) : (s.setOpb v).bus = s.bus := rfl
@[simp] theorem setOpb_rdata (v : Byte) : (s.setOpb v).rdata = s.rdata := rfl

@[simp] theorem setOpw0_status (v : U16) : (s.setOpw0 v).status = s.status := rfl
@[simp] theorem setOpw0_opa (v : U16) : (s.setOpw0 v).opa = s.opa := rfl
@[simp] theorem setOpw0_opb (v : U16) : (s.setOpw0 v).opb = s.opb := rfl
@[simp] theorem setOpw0_opw0 (v : U16) : (s.setOpw0 v).opw0 = v := rfl
@[simp] theorem setOpw0_opw1 (v : U16) : (s.setOpw0 v).opw1 = s.opw1 := rfl
@[simp] theorem setOpw0_crc (v : U16) : (s.setOpw0 v).crc = s.crc := rfl
@[simp] theorem setOpw0_resSlave (v : U16) : (s.setOpw0 v).resSlave = s.resSlave := rfl
@[simp] theorem setOpw0_resType (v : U16) : (s.setOpw0 v).resType = s.resType := rfl
@[simp] theorem setOpw0_resRxCrc (v : U16) : (s.setOpw0 v).resRxCrc = s.resRxCrc := rfl
@[simp] theorem setOpw0_resCalcCrc (v : U16) : (s.setOpw0 v).resCalcCrc = s.resCalcCrc := rfl
@[simp] theorem setOpw0_inBuf (v : U16) : (s.setOpw0 v).inBuf = s.inBuf := rfl
@[simp] theorem setOpw0_outBuf (v : U16) : (s.setOpw0 v).outBuf = s.outBuf := rfl
@[simp] theorem setOpw0_ftProfile (v : U16) : (s.setOpw0 v).ftProfile = s.ftProfile := rfl
@[simp] theorem setOpw0_maxBuf (v : U16) : (s.setOpw0 v).maxBuf = s.maxBuf := rfl
@[simp] theorem setOpw0_base (v : U16) : (s.setOpw0 v).base = s.base := rfl
@[simp] theorem setOpw0_bus (v : U16) : (s.setOpw0 v).bus = s.bus := rfl
@[simp] theorem setOpw0_rdata (v : U16) : (s.setOpw0 v).rdata = s.rdata := rfl

@[simp] theorem setOpw1_status (v : U16) : (s.setOpw1 v).status = s.status := rfl
@[simp] theorem setOpw1_opa (v : U16) : (s.setOpw1 v).opa = s.opa := rfl
@[simp] theorem setOpw1_opb (v : U16) : (s.setOpw1 v).opb = s.opb := rfl
@[simp] theorem setOpw1_opw0 (v : U16) : (s.setOpw1 v).opw0 = s.opw0 := rfl
@[simp] theorem setOpw1_opw1 (v : U16) : (s.setOpw1 v).opw1 = v := rfl
@[simp] theorem setOpw1_crc (v : U16) : (s.setOpw1 v).crc = s.crc := rfl
@[simp] theorem setOpw1_resSlave (v : U16) : (s.setOpw1 v).resSlave = s.resSlave := rfl
@[simp] theorem setOpw1_resType (v : U16) : (s.setOpw1 v).resType = s.resType := rfl
@[simp] theorem setOpw1_resRxCrc (v : U16) : (s.setOpw1 v).resRxCrc = s.resRxCrc := rfl
@[simp] theorem setOpw1_resCalcCrc (v : U16) : (s.setOpw1 v).resCalcCrc = s.resCalcCrc := rfl
@[simp] theorem setOpw1_inBuf (v : U16) : (s.setOpw1 v).inBuf = s.inBuf := rfl
@[simp] theorem setOpw1_outBuf (v : U16) : (s.setOpw1 v).outBuf = s.outBuf := rfl
@[simp] theorem setOpw1_ftProfile (v : U16) : (s.setOpw1 v).ftProfile = s.ftProfile := rfl
@[simp] theorem setOpw1_maxBuf (v : U16) : (s.setOpw1 v).maxBuf = s.maxBuf := rfl
@[simp] theorem setOpw1_base (v : U16) : (s.setOpw1 v).base = s.base := rfl
@[simp] theorem setOpw1_bus (v : U16) : (s.setOpw1 v).bus = s.bus := rfl
@[simp] theorem setOpw1_rdata (v : U16) : (s.setOpw1 v).rdata = s.rdata := rfl

@[simp] theorem setCrc_status (v : U16) : (s.setCrc v).status = s.status := rfl
@[simp] theorem setCrc_opa (v : U16) : (s.setCrc v).opa = s.opa := rfl
@[simp] theorem setCrc_opb (v : U16) : (s.setCrc v).opb = s.opb := rfl
@[simp] theorem setCrc_opw0 (v : U16) : (s.setCrc v).opw0 = s.opw0 := rfl
@[simp] theorem setCrc_opw1 (v : U16) : (s.setCrc v).opw1 = s.opw1 := rfl
@[simp] theorem setCrc_crc (v : U16) : (s.setCrc v).crc = v := rfl
@[simp] theorem setCrc_resSlave (v : U16) : (s.setCrc v).resSlave = s.resSlave := rfl
@[simp] theorem setCrc_resType (v : U16) : (s.setCrc v).resType = s.resType := rfl
@[simp] theorem setCrc_resRxCrc (v : U16) : (s.setCrc v).resRxCrc = s.resRxCrc := rfl
@[simp] theorem setCrc_resCalcCrc (v : U16) : (s.setCrc v).resCalcCrc = s.resCalcCrc := rfl
@[simp] theorem setCrc_inBuf (v : U16) : (s.setCrc v).inBuf = s.inBuf := rfl
@[simp] theorem setCrc_outBuf (v : U16) : (s.setCrc v).outBuf = s.outBuf := rfl
@[simp] theorem setCrc_ftProfile (v : U16) : (s.setCrc v).ftProfile = s.ftProfile := rfl
@[simp] theorem setCrc_maxBuf (v : U16) : (s.setCrc v).maxBuf = s.maxBuf := rfl
@[simp] theorem setCrc_base (v : U16) : (s.setCrc v).base = s.base := rfl
@[simp] theorem setCrc_bus (v : U16) : (s.setCrc v).bus = s.bus := rfl
@[simp] theorem setCrc_rdata (v : U16) : (s.setCrc v).rdata = s.rdata := rfl

@[simp] theorem setResId_status (a b : Byte) : (s.setResId a b).status = s.status := rfl
@[simp] theorem setResId_opa (a b : Byte) : (s.setResId a b).opa = s.opa := rfl
@[simp] theorem setResId_opb (a b : Byte) : (s.setResId a b).opb = s.opb := rfl
@[simp] theorem setResId_opw0 (a b : Byte) : (s.setResId a b).opw0 = s.opw0 := rfl
@[simp] theorem setResId_opw1 (a b : Byte) : (s.setResId a b).opw1 = s.opw1 := rfl
@[simp] theorem setResId_crc (a b : Byte) : (s.setResId a b).crc = s.crc := rfl
@[simp] theorem setResId_resSlave (a b : Byte) : (s.setResId a b).resSlave = a := rfl
@[simp] theorem setResId_resType (a b : Byte) : (s.setResId a b).resType = b := rfl
@[simp] theorem setResId_resRxCrc (a b : Byte) : (s.setResId a b).resRxCrc = s.resRxCrc := rfl
@[simp] theorem setResId_resCalcCrc (a b : Byte) : (s.setResId a b).resCalcCrc = s.resCalcCrc := rfl
@[simp] theorem setResId_inBuf (a b : Byte) : (s.setResId a b).inBuf = s.inBuf := rfl
@[simp] theorem setResId_outBuf (a b : Byte) : (s.setResId a b).outBuf = s.outBuf := rfl
@[simp] theorem setResId_ftProfile (a b : Byte) : (s.setResId a b).ftProfile = s.ftProfile := rfl
@[simp] theorem setResId_maxBuf (a b : Byte) : (s.setResId a b).maxBuf = s.maxBuf := rfl
@[simp] theorem setResId_base (a b : Byte) : (s.setResId a b).base = s.base := rfl
@[simp] theorem setResId_bus (a b : Byte) : (s.setResId a b).bus = s.bus := rfl
@[simp] theorem setResId_rdata (a b : Byte) : (s.setResId a b).rdata = s.rdata := rfl

@[simp] theorem setResRxCrc_status (v : U16) : (s.setResRxCrc v).status = s.status := rfl
@[simp] theorem setResRxCrc_opa (v : U16) : (s.setResRxCrc v).opa = s.opa := rfl
@[simp] theorem setResRxCrc_opb (v : U16) : (s.setResRxCrc v).opb = s.opb := rfl
@[simp] theorem setResRxCrc_opw0 (v : U16) : (s.setResRxCrc v).opw0 = s.opw0 := rfl
@[simp] theorem setResRxCrc_opw1 (v : U16) : (s.setResRxCrc v).opw1 = s.opw1 := rfl
@[simp] theorem setResRxCrc_crc (v : U16) : (s.setResRxCrc v).crc = s.crc := rfl
@[simp] theorem setResRxCrc_resSlave (v : U16) : (s.setResRxCrc v).resSlave = s.resSlave := rfl
@[simp] theorem setResRxCrc_resType (v : U16) : (s.setResRxCrc v).resType = s.resType := rfl
@[simp] theorem setResRxCrc_resRxCrc (v : U16) : (s.setResRxCrc v).resRxCrc = v := rfl
@[simp] theorem setResRxCrc_resCalcCrc (v : U16) : (s.setResRxCrc v).resCalcCrc = s.resCalcCrc := rfl
@[simp] theorem setResRxCrc_inBuf (v : U16) : (s.setResRxCrc v).inBuf = s.inBuf := rfl
@[simp] theorem setResRxCrc_outBuf (v : U16) : (s.setResRxCrc v).outBuf = s.outBuf := rfl
@[simp] theorem setResRxCrc_ftProfile (v : U16) : (s.setResRxCrc v).ftProfile = s.ftProfile := rfl
@[simp] theorem setResRxCrc_maxBuf (v : U16) : (s.setResRxCrc v).maxBuf = s.maxBuf := rfl
@[simp] theorem setResRxCrc_base (v : U16) : (s.setResRxCrc v).base = s.base := rfl
@[simp] theorem setResRxCrc_bus (v : U16) : (s.setResRxCrc v).bus = s.bus := rfl
@[simp] theorem setResRxCrc_rdata (v : U16) : (s.setResRxCrc v).rdata = s.rdata := rfl

@[simp] theorem setResCalcCrc_status (v : U16) : (s.setResCalcCrc v).status = s.status := rfl
@[simp] theorem setResCalcCrc_opa (v : U16) : (s.setResCalcCrc v).opa = s.opa := rfl
@[simp] theorem setResCalcCrc_opb (v : U16) : (s.setResCalcCrc v).opb = s.opb := rfl
@[simp] theorem setResCalcCrc_opw0 (v : U16) : (s.setResCalcCrc v).opw0 = s.opw0 := rfl
@[simp] theorem setResCalcCrc_opw1 (v : U16) : (s.setResCalcCrc v).opw1 = s.opw1 := rfl
@[simp] theorem setResCalcCrc_crc (v : U16) : (s.setResCalcCrc v).crc = s.crc := rfl
@[simp] theorem setResCalcCrc_resSlave (v : U16) : (s.setResCalcCrc v).resSlave = s.resSlave := rfl
@[simp] theorem setResCalcCrc_resType (v : U16) : (s.setResCalcCrc v).resType = s.resType := rfl
@[simp] theorem setResCalcCrc_resRxCrc (v : U16) : (s.setResCalcCrc v).resRxCrc = s.resRxCrc := rfl
@[simp] theorem setResCalcCrc_resCalcCrc (v : U16) : (s.setResCalcCrc v).resCalcCrc = v := rfl
@[simp] theorem setResCalcCrc_inBuf (v : U16) : (s.setResCalcCrc v).inBuf = s.inBuf := rfl
@[simp] theorem setResCalcCrc_outBuf (v : U16) : (s.setResCalcCrc v).outBuf = s.outBuf := rfl
@[simp] theorem setResCalcCrc_ftProfile (v : U16) : (s.setResCalcCrc v).ftProfile = s.ftProfile := rfl
@[simp] theorem setResCalcCrc_maxBuf (v : U16) : (s.setResCalcCrc v).maxBuf = s.maxBuf := rfl
@[simp] theorem setResCalcCrc_base (v : U16) : (s.setResCalcCrc v).base = s.base := rfl
@[simp] theorem setResCalcCrc_bus (v : U16) : (s.setResCalcCrc v).bus = s.bus := rfl
@[simp] theorem setResCalcCrc_rdata (v : U16) : (s.setResCalcCrc v).rdata = s.rdata := rfl

@[simp] theorem setIn_status (b : List Byte) : (s.setIn b).status = s.status := rfl
@[simp] theorem setIn_opa (b : List Byte) : (s.setIn b).opa = s.opa := rfl
@[simp] theorem setIn_opb (b : List Byte) : (s.setIn b).opb = s.opb := rfl
@[simp] theorem setIn_opw0 (b : List Byte) : (s.setIn b).opw0 = s.opw0 := rfl
@[simp] theorem setIn_opw1 (b : List Byte) : (s.setIn b).opw1 = s.opw1 := rfl
@[simp] theorem setIn_crc (b : List Byte) : (s.setIn b).crc = s.crc := rfl
@[simp] theorem setIn_resSlave (b : List Byte) : (s.setIn b).resSlave = s.resSlave := rfl
@[simp] theorem setIn_resType (b : List Byte) : (s.setIn b).resType = s.resType := rfl
@[simp] theorem setIn_resRxCrc (b : List Byte) : (s.setIn b).resRxCrc = s.resRxCrc := rfl
@[simp] theorem setIn_resCalcCrc (b : List Byte) : (s.setIn b).resCalcCrc = s.resCalcCrc := rfl
@[simp] theorem setIn_inBuf (b : List Byte) : (s.setIn b).inBuf = b := rfl
@[simp] theorem setIn_outBuf (b : List Byte) : (s.setIn b).outBuf = s.outBuf := rfl
@[simp] theorem setIn_ftProfile (b : List Byte) : (s.setIn b).ftProfile = s.ftProfile := rfl
@[simp] theorem setIn_maxBuf (b : List Byte) : (s.setIn b).maxBuf = s.maxBuf := rfl
@[simp] theorem setIn_base (b : List Byte) : (s.setIn b).base = s.base := rfl
@[simp] theorem setIn_bus (b : List Byte) : (s.setIn b).bus = s.bus := rfl
@[simp] theorem setIn_rdata (b : List Byte) : (s.setIn b).rdata = s.rdata := rfl

@[simp] theorem setOut_status (b : List Byte) : (s.setOut b).status = s.status := rfl
@[simp] theorem setOut_opa (b : List Byte) : (s.setOut b).opa = s.opa := rfl
@[simp] theorem setOut_opb (b : List Byte) : (s.setOut b).opb = s.opb := rfl
@[simp] theorem setOut_opw0 (b : List Byte) : (s.setOut b).opw0 = s.opw0 := rfl
@[simp] theorem setOut_opw1 (b : List Byte) : (s.setOut b).opw1 = s.opw1 := rfl
@[simp] theorem setOut_crc (b : List Byte) : (s.setOut b).crc = s.crc := rfl
@[simp] theorem setOut_resSlave (b : List Byte) : (s.setOut b).resSlave = s.resSlave := rfl
@[simp] theorem setOut_resType (b : List Byte) : (s.setOut b).resType = s.resType := rfl
@[simp] theorem setOut_resRxCrc (b : List Byte) : (s.setOut b).resRxCrc = s.resRxCrc := rfl
@[simp] theorem setOut_resCalcCrc (b : List Byte) : (s.setOut b).resCalcCrc = s.resCalcCrc := rfl
@[simp] theorem setOut_inBuf (b : List Byte) : (s.setOut b).inBuf = s.inBuf := rfl
@[simp] theorem setOut_outBuf (b : List Byte) : (s.setOut b).outBuf = b := rfl
@[simp] theorem setOut_ftProfile (b : List Byte) : (s.setOut b).ftProfile = s.ftProfile := rfl
@[simp] theorem setOut_maxBuf (b : List Byte) : (s.setOut b).maxBuf = s.maxBuf := rfl
@[simp] theorem setOut_base (b : List Byte) : (s.setOut b).base = s.base := rfl
@[simp] theorem setOut_bus (b : List Byte) : (s.setOut b).bus = s.bus := rfl
@[simp] theorem setOut_rdata (b : List Byte) : (s.setOut b).rdata = s.rdata := rfl

@[simp] theorem setProfile_status (v : Word) : (s.setProfile v).status = s.status := rfl
@[simp] theorem setProfile_opa (v : Word) : (s.setProfile v).opa = s.opa := rfl
@[simp] theorem setProfile_opb (v : Word) : (s.setProfile v).opb = s.opb := rfl
@[simp] theorem setProfile_opw0 (v : Word) : (s.setProfile v).opw0 = s.opw0 := rfl
@[simp] theorem setProfile_opw1 (v : Word) : (s.setProfile v).opw1 = s.opw1 := rfl
@[simp] theorem setProfile_crc (v : Word) : (s.setProfile v).crc = s.crc := rfl
@[simp] theorem setProfile_resSlave (v : Word) : (s.setProfile v).resSlave = s.resSlave := rfl
@[simp] theorem setProfile_resType (v : Word) : (s.setProfile v).resType = s.resType := rfl
@[simp] theorem setProfile_resRxCrc (v : Word) : (s.setProfile v).resRxCrc = s.resRxCrc := rfl
@[simp] theorem setProfile_resCalcCrc (v : Word) : (s.setProfile v).resCalcCrc = s.resCalcCrc := rfl
@[simp] theorem setProfile_inBuf (v : Word) : (s.setProfile v).inBuf = s.inBuf := rfl
@[simp] theorem setProfile_outBuf (v : Word) : (s.setProfile v).outBuf = s.outBuf := rfl
@[simp] theorem setProfile_ftProfile (v : Word) : (s.setProfile v).ftProfile = v := rfl
@[simp] theorem setProfile_maxBuf (v : Word) : (s.setProfile v).maxBuf = s.maxBuf := rfl
@[simp] theorem setProfile_base (v : Word) : (s.setProfile v).base = s.base := rfl
@[simp] theorem setProfile_bus (v : Word) : (s.setProfile v).bus = s.bus := rfl
@[simp] theorem setProfile_rdata (v : Word) : (s.setProfile v).rdata = s.rdata := rfl

@[simp] theorem setBus_status (es : List BusEvent) : (s.setBus es).status = s.status := rfl
@[simp] theorem setBus_opa (es : List BusEvent) : (s.setBus es).opa = s.opa := rfl
@[simp] theorem setBus_opb (es : List BusEvent) : (s.setBus es).opb = s.opb := rfl
@[simp] theorem setBus_opw0 (es : List BusEvent) : (s.setBus es).opw0 = s.opw0 := rfl
@[simp] theorem setBus_opw1 (es : List BusEvent) : (s.setBus es).opw1 = s.opw1 := rfl
@[simp] theorem setBus_crc (es : List BusEvent) : (s.setBus es).crc = s.crc := rfl
@[simp] theorem setBus_resSlave (es : List BusEvent) : (s.setBus es).resSlave = s.resSlave := rfl
@[simp] theorem setBus_resType (es : List BusEvent) : (s.setBus es).resType = s.resType := rfl
@[simp] theorem setBus_resRxCrc (es : List BusEvent) : (s.setBus es).resRxCrc = s.resRxCrc := rfl
@[simp] theorem setBus_resCalcCrc (es : List BusEvent) : (s.setBus es).resCalcCrc = s.resCalcCrc := rfl
@[simp] theorem setBus_inBuf (es : List BusEvent) : (s.setBus es).inBuf = s.inBuf := rfl
@[simp] theorem setBus_outBuf (es : List BusEvent) : (s.setBus es).outBuf = s.outBuf := rfl
@[simp] theorem setBus_ftProfile (es : List BusEvent) : (s.setBus es).ftProfile = s.ftProfile := rfl
@[simp] theorem setBus_maxBuf (es : List BusEvent) : (s.setBus es).maxBuf = s.maxBuf := rfl
@[simp] theorem setBus_base (es : List BusEvent) : (s.setBus es).base = s.base := rfl
@[simp] theorem setBus_bus (es : List BusEvent) : (s.setBus es).bus = es := rfl
@[simp] theorem setBus_rdata (es : List BusEvent) : (s.setBus es).rdata = s.rdata := rfl

@[simp] theorem setRdata_status (v : Word) : (s.setRdata v).status = s.status := rfl
@[simp] theorem setRdata_opa (v : Word) : (s.setRdata v).opa = s.opa := rfl
@[simp] theorem setRdata_opb (v : Word) : (s.setRdata v).opb = s.opb := rfl
@[simp] theorem setRdata_opw0 (v : Word) : (s.setRdata v).opw0 = s.opw0 := rfl
@[simp] theorem setRdata_opw1 (v : Word) : (s.setRdata v).opw1 = s.opw1 := rfl
@[simp] theorem setRdata_crc (v : Word) : (s.setRdata v).crc = s.crc := rfl
@[simp] theorem setRdata_resSlave (v : Word) : (s.setRdata v).resSlave = s.resSlave := rfl
@[simp] theorem setRdata_resType (v : Word) : (s.setRdata v).resType = s.resType := rfl
@[simp] theorem setRdata_resRxCrc (v : Word) : (s.setRdata v).resRxCrc = s.resRxCrc := rfl
@[simp] theorem setRdata_resCalcCrc (v : Word) : (s.setRdata v).resCalcCrc = s.resCalcCrc := rfl
@[simp] theorem setRdata_inBuf (v : Word) : (s.setRdata v).inBuf = s.inBuf := rfl
@[simp] theorem setRdata_outBuf (v : Word) : (s.setRdata v).outBuf = s.outBuf := rfl
@[simp] theorem setRdata_ftProfile (v : Word) : (s.setRdata v).ftProfile = s.ftProfile := rfl
@[simp] theorem setRdata_maxBuf (v : Word) : (s.setRdata v).maxBuf = s.maxBuf := rfl
@[simp] theorem setRdata_base (v : Word) : (s.setRdata v).base = s.base := rfl
@[simp] theorem setRdata_bus (v : Word) : (s.setRdata v).bus = s.bus := rfl
@[simp] theorem setRdata_rdata (v : Word) : (s.setRdata v).rdata = some v := rfl

@[simp] theorem resetBlock_status : s.resetBlock.status = 0x00#8 := rfl
@[simp] theorem resetBlock_opa : s.resetBlock.opa = 0x00#8 := rfl
@[simp] theorem resetBlock_opb : s.resetBlock.opb = 0x00#8 := rfl
@[simp] theorem resetBlock_opw0 : s.resetBlock.opw0 = 0x0000#16 := rfl
@[simp] theorem resetBlock_opw1 : s.resetBlock.opw1 = 0x0000#16 := rfl
@[simp] theorem resetBlock_crc : s.resetBlock.crc = 0xFFFF#16 := rfl
@[simp] theorem resetBlock_resSlave : s.resetBlock.resSlave = 0x00#8 := rfl
@[simp] theorem resetBlock_resType : s.resetBlock.resType = 0x00#8 := rfl
@[simp] theorem resetBlock_resRxCrc : s.resetBlock.resRxCrc = 0x0000#16 := rfl
@[simp] theorem resetBlock_resCalcCrc : s.resetBlock.resCalcCrc = 0x0000#16 := rfl
@[simp] theorem resetBlock_inBuf : s.resetBlock.inBuf = [] := rfl
@[simp] theorem resetBlock_outBuf : s.resetBlock.outBuf = [] := rfl
@[simp] theorem resetBlock_ftProfile : s.resetBlock.ftProfile = 0xEEAACCAA#32 := rfl
@[simp] theorem resetBlock_maxBuf : s.resetBlock.maxBuf = s.maxBuf := rfl
@[simp] theorem resetBlock_base : s.resetBlock.base = s.base := rfl
@[simp] theorem resetBlock_bus : s.resetBlock.bus = s.bus := rfl
@[simp] theorem resetBlock_rdata : s.resetBlock.rdata = s.rdata := rfl

/-! The reset state, whose registers and buffers stand at the values of rule R47. -/

@[simp] theorem resetWith_status (n b : Nat) : (State.resetWith n b).status = 0x00#8 := rfl
@[simp] theorem resetWith_opa (n b : Nat) : (State.resetWith n b).opa = 0x00#8 := rfl
@[simp] theorem resetWith_opb (n b : Nat) : (State.resetWith n b).opb = 0x00#8 := rfl
@[simp] theorem resetWith_opw0 (n b : Nat) : (State.resetWith n b).opw0 = 0x0000#16 := rfl
@[simp] theorem resetWith_opw1 (n b : Nat) : (State.resetWith n b).opw1 = 0x0000#16 := rfl
@[simp] theorem resetWith_crc (n b : Nat) : (State.resetWith n b).crc = 0xFFFF#16 := rfl
@[simp] theorem resetWith_resSlave (n b : Nat) : (State.resetWith n b).resSlave = 0x00#8 := rfl
@[simp] theorem resetWith_resType (n b : Nat) : (State.resetWith n b).resType = 0x00#8 := rfl
@[simp] theorem resetWith_resRxCrc (n b : Nat) : (State.resetWith n b).resRxCrc = 0x0000#16 := rfl
@[simp] theorem resetWith_resCalcCrc (n b : Nat) : (State.resetWith n b).resCalcCrc = 0x0000#16 := rfl
@[simp] theorem resetWith_inBuf (n b : Nat) : (State.resetWith n b).inBuf = [] := rfl
@[simp] theorem resetWith_outBuf (n b : Nat) : (State.resetWith n b).outBuf = [] := rfl
@[simp] theorem resetWith_ftProfile (n b : Nat) : (State.resetWith n b).ftProfile = 0xEEAACCAA#32 := rfl
@[simp] theorem resetWith_maxBuf (n b : Nat) : (State.resetWith n b).maxBuf = n := rfl
@[simp] theorem resetWith_base (n b : Nat) : (State.resetWith n b).base = b := rfl
@[simp] theorem resetWith_bus (n b : Nat) : (State.resetWith n b).bus = [] := rfl
@[simp] theorem resetWith_rdata (n b : Nat) : (State.resetWith n b).rdata = none := rfl

end Sys2Proof.Machine.State
end

