-- ==== Sys2Proof/Laws/Ops.lean ====
section
/-! SUPPORT. What each shared operation can do, said once: the ways a command ends, the serving of an access, the order of
the bus, and the buffers' bound. -/

namespace Sys2Proof.Machine

/-! ## How a command ends -/

/-- The codes are seven different numbers (R300). -/
theorem StatusCode.code_injective (a b : StatusCode) (h : a.code = b.code) : a = b := by
  cases a <;> cases b <;> first | rfl | exact absurd h (by decide)

/-- Every code is one of the values of STATUS (R300). -/
theorem StatusCode.code_mem_statusValues (c : StatusCode) : c.code ∈ statusValues := by
  cases c <;> decide

/-- OK is the only code that is 0. -/
theorem StatusCode.code_eq_zero_iff (c : StatusCode) : c.code = 0x00 ↔ c = .ok := by
  cases c <;> decide

/-- `finish` goes on in the state with STATUS OK, and nowhere else. -/
theorem finish_next_iff (s t : State) : finish s = .next t ↔ t = s.setStatus .ok := by
  simp [finish, eq_comm]

/-- `raise` goes on in the state with STATUS at the code, and nowhere else. -/
theorem raise_next_iff (c : StatusCode) (s t : State) : raise c s = .next t ↔ t = s.setStatus c := by
  simp [raise, eq_comm]

/-- `settleFrame` either raises the error's code or writes the five results of a good frame and OK. -/
theorem settleFrame_next_iff (r : FrameResult) (s t : State) :
    settleFrame r s = .next t ↔
      (∃ c, r = .error c ∧ t = s.setStatus c) ∨
      (∃ f, r = .decoded f ∧
        t = ((((s.setResId f.slave f.type).setResRxCrc f.rxCrc).setResCalcCrc f.calcCrc).setOut f.data).setStatus .ok) := by
  cases r <;> simp [settleFrame, raise, finish, eq_comm]

/-! ## The bus -/

/-- With no access waiting, a step keeps the state. -/
theorem step_idle (s : State) (h : s.bus = []) : step s = .next s := by
  simp [step, serveNext, h]

/-- With an access waiting, a step serves it in the state without it. -/
theorem step_cons (s : State) (e : BusEvent) (es : List BusEvent) (h : s.bus = e :: es) :
    step s = serve e (s.setBus es) := by
  simp [step, serveNext, h]

/-- What the checks of an access let through: an offset inside the space, a multiple of 4, at a width of 4. -/
theorem atOffset_next (s t : State) (addr width : Nat) (k : Nat → Host.Outcome State Fault Refusal)
    (h : atOffset s addr width k = .next t) :
    ∃ o, addr = s.base + o ∧ o < Config.spaceSize ∧ width = 4 ∧ o % 4 = 0 ∧ k o = .next t := by
  unfold atOffset at h
  split at h
  · cases h
  · split at h
    · cases h
    · split at h
      · cases h
      · refine ⟨addr - s.base, ?_, ?_, ?_, ?_, h⟩ <;> omega

/-- An access the block defines passes the checks. -/
theorem atOffset_defined (s : State) (o : Nat) (k : Nat → Host.Outcome State Fault Refusal)
    (h : o < Config.spaceSize) (h4 : o % 4 = 0) : atOffset s (s.base + o) 4 k = k o := by
  unfold atOffset
  rw [if_neg (by omega), if_neg (by omega), if_neg (by omega)]
  congr 1
  omega

/-- CMD stands at offset 0. -/
theorem targetOf_zero : targetOf 0 = .reg .cmd := by decide

/-- Each register stands at its offset. -/
theorem targetOf_regOffset (r : Reg) : targetOf (regOffset r) = .reg r := by cases r <;> decide

/-- A read the block defines, as the next access, returns what its offset names. -/
theorem step_read (s : State) (o : Nat) (es : List BusEvent) (h : s.bus = .read (s.base + o) 4 :: es)
    (ho : o < Config.spaceSize) (h4 : o % 4 = 0) :
    step s = .next ((s.setBus es).setRdata (readTarget (s.setBus es) (targetOf o))) := by
  rw [step_cons s _ es h]
  exact atOffset_defined (s.setBus es) o
    (fun o => .next ((s.setBus es).setRdata (readTarget (s.setBus es) (targetOf o)))) ho h4

/-- A write the block defines, as the next access, does what its offset names. -/
theorem step_write (s : State) (o : Nat) (v : Word) (es : List BusEvent) (h : s.bus = .write (s.base + o) 4 v :: es)
    (ho : o < Config.spaceSize) (h4 : o % 4 = 0) : step s = writeTarget (targetOf o) v (s.setBus es) := by
  rw [step_cons s _ es h]
  exact atOffset_defined (s.setBus es) o (fun o => writeTarget (targetOf o) v (s.setBus es)) ho h4

/-- An access of the block's address space at another width, or at an offset that is not a multiple of 4, is refused. -/
theorem atOffset_refused (s : State) (o width : Nat) (k : Nat → Host.Outcome State Fault Refusal)
    (ho : o < Config.spaceSize) (h : width ≠ 4 ∨ o % 4 ≠ 0) : ∃ r, atOffset s (s.base + o) width k = .refused r := by
  unfold atOffset
  rw [if_neg (by omega)]
  split
  · exact ⟨_, rfl⟩
  · rw [if_pos (by omega)]
    exact ⟨_, rfl⟩

/-- So is the step that would serve such an access. -/
theorem step_refused (s : State) (o width : Nat) (v : Word) (es : List BusEvent) (ho : o < Config.spaceSize)
    (h : width ≠ 4 ∨ o % 4 ≠ 0) :
    (s.bus = .read (s.base + o) width :: es → ∃ r, step s = .refused r) ∧
    (s.bus = .write (s.base + o) width v :: es → ∃ r, step s = .refused r) := by
  constructor <;> intro hb <;> rw [step_cons s _ es hb]
  · exact atOffset_refused (s.setBus es) o width
      (fun o => .next ((s.setBus es).setRdata (readTarget (s.setBus es) (targetOf o)))) ho h
  · exact atOffset_refused (s.setBus es) o width (fun o => writeTarget (targetOf o) v (s.setBus es)) ho h

/-- A host write to CMD, as the next access, executes the word. -/
theorem step_commandWrite (s : State) (w : Word) (es : List BusEvent)
    (h : s.bus = .write (s.base + regOffset .cmd) 4 w :: es) : step s = writeCmd w (s.setBus es) := by
  exact (step_write s 0 w es h (by decide) (by decide)).trans (by rw [targetOf_zero]; rfl)

/-- The word the host places for a fetch is the next command, and the accesses that were waiting wait on. -/
theorem step_withFetchWord (s : State) (w : Word) (i : Instr) (h : decode w = .command i) :
    step (s.withFetchWord 32 w.toNat) = exec i s := by
  have hw : tableWord 32 w.toNat = w := by
    apply BitVec.eq_of_toNat_eq
    simp [tableWord, Nat.mod_eq_of_lt w.isLt]
  rw [step_commandWrite (s.withFetchWord 32 w.toNat) w s.bus (by
    simp [State.withFetchWord, withCommandWrite, hw])]
  simp [writeCmd, h, State.withFetchWord, withCommandWrite, State.setBus]

/-! ## The buffers' bound (R143) -/

/-- Emptying IN keeps the bound. -/
theorem setIn_nil_keeps_wf (s : State) (h : Memory.wf s) : Memory.wf (s.setIn []) :=
  ⟨Nat.zero_le _, h.2⟩

/-- Appending a byte to an IN that is not full keeps the bound. -/
theorem setIn_push_keeps_wf (s : State) (b : Byte) (h : Memory.wf s) (hn : s.inBuf.length ≠ s.maxBuf) :
    Memory.wf (s.setIn (s.inBuf ++ [b])) := by
  obtain ⟨h1, h2⟩ := h
  refine ⟨?_, h2⟩
  simp
  omega

/-- Moving OUT into IN keeps the bound. -/
theorem xfer_keeps_wf (s : State) (h : Memory.wf s) : Memory.wf ((s.setIn s.outBuf).setOut []) :=
  ⟨h.2, Nat.zero_le _⟩

/-- Replacing OUT by a sequence that fits keeps the bound. -/
theorem setOut_keeps_wf (s : State) (b : List Byte) (h : Memory.wf s) (hb : b.length ≤ s.maxBuf) :
    Memory.wf (s.setOut b) := ⟨h.1, hb⟩

/-- Reset keeps the bound: both buffers are empty. -/
theorem resetBlock_wf (s : State) : Memory.wf s.resetBlock := ⟨Nat.zero_le _, Nat.zero_le _⟩

/-- The reset state's buffers keep the bound. -/
theorem reset_wf : Memory.wf State.reset := ⟨Nat.zero_le _, Nat.zero_le _⟩

end Sys2Proof.Machine
end

