-- ==== Sys2Proof/Laws/PerInstr.lean ====
section
/-! SUPPORT. One statement for each command of Instr: the fields of its word. -/

/-- A command's word holds its OP and its immediate in their fields, and RSVD is 0 (R91, R94). -/
def Sys2Proof.Laws.EncodingFields.Statement (i : Sys2Proof.Instr) : Prop :=
  Sys2Proof.opField (Sys2Proof.encode i) = Sys2Proof.opcode i ∧
  Sys2Proof.immField (Sys2Proof.encode i) = Sys2Proof.immediate i ∧
  Sys2Proof.rsvdField (Sys2Proof.encode i) = 0

namespace Sys2Proof.Laws.EncodingFields

theorem nop : Statement .nop := by unfold Statement; decide
theorem crcInit : Statement .crcInit := by unfold Statement; decide
theorem crcUpdate : ∀ b, Statement (.crcUpdate b) := by unfold Statement; decide +kernel
theorem crcFeed : Statement .crcFeed := by unfold Statement; decide
theorem crcCompute : Statement .crcCompute := by unfold Statement; decide
theorem crcCheck : Statement .crcCheck := by unfold Statement; decide
theorem bufClear : Statement .bufClear := by unfold Statement; decide
theorem bufPush : ∀ b, Statement (.bufPush b) := by unfold Statement; decide +kernel
theorem bufXfer : Statement .bufXfer := by unfold Statement; decide
theorem stuff : Statement .stuff := by unfold Statement; decide
theorem destuff : Statement .destuff := by unfold Statement; decide
theorem ftEncode : Statement .ftEncode := by unfold Statement; decide
theorem ftDecode : Statement .ftDecode := by unfold Statement; decide
theorem mbEncode : Statement .mbEncode := by unfold Statement; decide
theorem mbDecode : Statement .mbDecode := by unfold Statement; decide
theorem reset : Statement .reset := by unfold Statement; decide

end Sys2Proof.Laws.EncodingFields
end

