-- ==== Sys2Proof/Tests/Slice0.lean ====
section
/-! SUPPORT. The model's own tests. Expected values come from the spec: the opcode map (30_encoding.md R95), the test vectors
of 95_test_vectors.md (named V-...), and the examples of the commands' rules. The witnesses at the end show, for each
statement with hypotheses, values that meet all of them. -/

namespace Sys2Proof.Tests

open Sys2Proof Sys2Proof.Machine Sys2Proof.Claims

/-! ## Helpers -/

/-- The next state of an outcome, if there is one. -/
def nextOf (o : Host.Outcome State Fault Refusal) : Option State :=
  match o with
  | .next t => some t
  | .fault _ => none
  | .refused _ => none

theorem eq_next_of {o : Host.Outcome State Fault Refusal} {t : State} (h : nextOf o = some t) : o = .next t := by
  cases o <;> simp_all [nextOf]

/-- One step of a block to which the host writes the word `w` at CMD. -/
def command (w : Word) (s : State) : Option State := nextOf (step (s.withFetchWord 32 w.toNat))

/-- A block of capacity 64 just after reset, with the bytes of IN. -/
def withIn (b : List Byte) : State := { State.resetWith 64 0 with inBuf := b }

/-- A block of capacity 64 just after reset, with operands and the bytes of IN. -/
def withOps (a b : Byte) (x y : U16) (i : List Byte) : State :=
  { State.resetWith 64 0 with opa := a, opb := b, opw0 := x, opw1 := y, inBuf := i }

/-- One step of a block that serves the event `e`. -/
def event (e : BusEvent) (s : State) : Host.Outcome State Fault Refusal := step { s with bus := [e] }

/-! ## WellFormed: an ill-formed term for each check, which the check refuses -/

theorem test_wf_width : accessWellFormed 0x100 0x104 2 = false := by decide
theorem test_wf_alignment : accessWellFormed 0x100 0x106 4 = false := by decide
theorem test_wf_below : accessWellFormed 0x100 0xFC 4 = false := by decide
theorem test_wf_above : accessWellFormed 0x100 0x4100 4 = false := by decide
theorem test_wf_event : BusEvent.wellFormed 0 (.write 0x2 4 0) = false := by decide
theorem test_wf_access : accessWellFormed 0x100 0x40FC 4 = true := by decide
theorem test_wf_capacity_low : capacityWellFormed 15 = false := by decide
theorem test_wf_capacity_high : capacityWellFormed 1025 = false := by decide
theorem test_wf_byte : byteWellFormed 256 = false := by decide

/-! ## Decoding: each row's word written out from the fields of R91, RSVD IMM8 OP (R95) -/

theorem test_decode_nop : decode 0b0000000000000000_00000000_00000000 = .command .nop := by decide
theorem test_decode_crcInit : decode 0b0000000000000000_00000000_00000001 = .command .crcInit := by decide
theorem test_decode_crcUpdate : decode 0b0000000000000000_10000011_00000010 = .command (.crcUpdate 0x83) := by decide
theorem test_decode_crcFeed : decode 0b0000000000000000_00000000_00000011 = .command .crcFeed := by decide
theorem test_decode_crcCompute : decode 0b0000000000000000_00000000_00000100 = .command .crcCompute := by decide
theorem test_decode_crcCheck : decode 0b0000000000000000_00000000_00000101 = .command .crcCheck := by decide
theorem test_decode_bufClear : decode 0b0000000000000000_00000000_00010000 = .command .bufClear := by decide
theorem test_decode_bufPush : decode 0b0000000000000000_10101010_00010001 = .command (.bufPush 0xAA) := by decide
theorem test_decode_bufXfer : decode 0b0000000000000000_00000000_00010010 = .command .bufXfer := by decide
theorem test_decode_stuff : decode 0b0000000000000000_00000000_00100000 = .command .stuff := by decide
theorem test_decode_destuff : decode 0b0000000000000000_00000000_00100001 = .command .destuff := by decide
theorem test_decode_ftEncode : decode 0b0000000000000000_00000000_00110000 = .command .ftEncode := by decide
theorem test_decode_ftDecode : decode 0b0000000000000000_00000000_00110001 = .command .ftDecode := by decide
theorem test_decode_mbEncode : decode 0b0000000000000000_00000000_01000000 = .command .mbEncode := by decide
theorem test_decode_mbDecode : decode 0b0000000000000000_00000000_01000001 = .command .mbDecode := by decide
theorem test_decode_reset : decode 0b0000000000000000_00000000_11110000 = .command .reset := by decide

/-! V-ENC-4 to V-ENC-10 -/
theorem test_illegal_unassigned : decode 0x00000006 = .illegal .unassignedOp := by decide
theorem test_illegal_immediate : decode 0x00000101 = .illegal .unusedImmediate := by decide
theorem test_illegal_reserved : decode 0x00010000 = .illegal .reservedBits := by decide
theorem test_illegal_reserved_op : decode 0x00000080 = .illegal .unassignedOp := by decide
theorem test_illegal_update_reserved : decode 0x00010002 = .illegal .reservedBits := by decide
theorem test_illegal_reset_immediate : decode 0x000001F0 = .illegal .unusedImmediate := by decide
theorem test_table_word : decodeTableWord 32 0x0000AA11 = some (.bufPush 0xAA) := by decide
theorem test_table_illegal : decodeTableWord 32 0x00000101 = none := by decide

/-! ## The commands: the vectors of 95_test_vectors.md, one step each -/

/-- V-SYS-2 -/
theorem test_nop : command 0x00000000 { withIn [] with status := 0x11 } = some (withIn []) := by decide
/-- V-ENC-5: an illegal word leaves CRC alone. -/
theorem test_illegal : command 0x00000101 { withIn [] with crc := 0x1234 } =
    some { withIn [] with crc := 0x1234, status := 0x01 } := by decide
/-- V-CRC-19 -/
theorem test_crcInit : (command 0x00000001 { withIn [] with crc := 0x7141 }).map (·.crc) = some 0xFFFF := by decide
/-- V-CRC-20, V-CRC-17 -/
theorem test_crcUpdate : (command 0x00000202 (withIn [])).map (·.crc) = some 0x813E := by decide
/-- V-CRC-21, V-CRC-18 -/
theorem test_crcUpdate_again : (command 0x00008302 { withIn [] with crc := 0x813E }).map (·.crc) = some 0x7141 := by
  decide
/-- V-CRC-22 -/
theorem test_crcFeed : (command 0x00000003 { withIn [0x83] with crc := 0x813E }).map (·.crc) = some 0x7141 := by decide
/-- V-CRC-23 -/
theorem test_crcFeed_empty : (command 0x00000003 { withIn [] with crc := 0x1234 }).map (·.crc) = some 0x1234 := by
  decide
/-- V-CRC-24, the CRC-16/MODBUS check value of "123456789" -/
theorem test_crcCompute : (command 0x00000004
    (withIn [0x31, 0x32, 0x33, 0x34, 0x35, 0x36, 0x37, 0x38, 0x39])).map (·.crc) = some 0x4B37 := by decide +kernel
/-- V-CRC-25 -/
theorem test_crcCompute_residue : (command 0x00000004
    (withIn [0x01, 0x04, 0x02, 0x00, 0xFF, 0xF9, 0x70])).map (·.crc) = some 0x0000 := by decide +kernel
/-- V-CRC-27 -/
theorem test_crcCheck : command 0x00000005 { withIn [0x02, 0x83] with opw1 := 0x7141 } =
    some { withIn [0x02, 0x83] with opw1 := 0x7141, resRxCrc := 0x7141, resCalcCrc := 0x7141 } := by decide +kernel
/-- V-CRC-28: the bytes swapped -/
theorem test_crcCheck_swapped : command 0x00000005 { withIn [0x02, 0x83] with opw1 := 0x4171 } =
    some { withIn [0x02, 0x83] with opw1 := 0x4171, status := 0x11 } := by decide +kernel
/-- V-BUF-1 -/
theorem test_bufClear : (command 0x00000010 { withIn [0x02, 0x83] with outBuf := [0x34] }).map
    (fun t => (t.inBuf, t.outBuf)) = some ([], [0x34]) := by decide
/-- V-BUF-2 -/
theorem test_bufPush : (command 0x00008311 (withIn [0x02])).map (·.inBuf) = some [0x02, 0x83] := by decide
/-- V-BUF-4: a full IN -/
theorem test_bufPush_full : (command 0x00001011 { State.resetWith 16 0 with inBuf := List.replicate 16 0x00 }).map
    (fun t => (t.status, t.inBuf.length)) = some (0x02, 16) := by decide
/-- V-BUF-5 -/
theorem test_bufXfer : (command 0x00000012 { withIn [0x01] with outBuf := [0xAA, 0xCC, 0x02] }).map
    (fun t => (t.inBuf, t.outBuf)) = some ([0xAA, 0xCC, 0x02], []) := by decide
/-- V-ST-10 -/
theorem test_stuff : (command 0x00000020 (withIn [0x12, 0xAA, 0x34])).map (·.outBuf) =
    some [0x12, 0xAA, 0xAA, 0x34] := by decide
/-- V-ST-16 -/
theorem test_stuff_overflow : (command 0x00000020
    { State.resetWith 16 0 with inBuf := List.replicate 9 0xAA, outBuf := [0x07] }).map (fun t => (t.status, t.outBuf)) =
    some (0x02, [0x07]) := by decide
/-- V-ST-13: a run of 5 gives 3 -/
theorem test_destuff_run : (command 0x00000021 (withIn [0xAA, 0xAA, 0xAA, 0xAA, 0xAA])).map (·.outBuf) =
    some [0xAA, 0xAA, 0xAA] := by decide
/-- V-ST-11 -/
theorem test_destuff : (command 0x00000021 (withIn [0x12, 0xAA, 0xAA, 0x34])).map (·.outBuf) =
    some [0x12, 0xAA, 0x34] := by decide
/-- V-FT-9: the CRC's high byte is stuffed -/
theorem test_ftEncode : (command 0x00000030 (withOps 0x01 0xE6 0 0 [])).map (fun t => (t.outBuf, t.resCalcCrc)) =
    some ([0xAA, 0xCC, 0x01, 0xE6, 0x81, 0xAA, 0xAA, 0xAA, 0xEE], 0xAA81) := by decide +kernel
/-- V-FT-17: another profile -/
theorem test_ftEncode_profile : (command 0x00000030 { withOps 0x02 0x83 0 0 [] with ftProfile := 0x02550155 }).map
    (·.outBuf) = some [0x55, 0x01, 0x02, 0x83, 0x41, 0x71, 0x55, 0x02] := by decide +kernel
/-- V-FT-15: a lone 0xAA is kept as a data byte -/
theorem test_ftDecode : (command 0x00000031 (withIn [0xAA, 0xCC, 0x02, 0x83, 0xAA, 0x31, 0x4F, 0xAA, 0xEE])).map
    (fun t => (t.status, t.resSlave, t.resType, t.outBuf, t.resRxCrc)) =
    some (0x00, 0x02, 0x83, [0xAA], 0x4F31) := by decide +kernel
/-- V-FT-13a: an empty body is a checksum error -/
theorem test_ftDecode_short : (command 0x00000031 (withIn [0xAA, 0xCC, 0xAA, 0xEE])).map (·.status) = some 0x11 := by
  decide
/-- V-MB-5 -/
theorem test_mbEncode : (command 0x00000040 (withOps 0x01 0x06 0x0101 0x0005 [])).map
    (fun t => (t.outBuf, t.resCalcCrc)) = some ([0x01, 0x06, 0x01, 0x01, 0x00, 0x05, 0x19, 0xF5], 0xF519) := by
  decide +kernel
/-- V-MB-9 -/
theorem test_mbEncode_unsupported : (command 0x00000040 (withOps 0x01 0x10 0 0 [])).map (·.status) = some 0x13 := by
  decide
/-- V-MB-12 -/
theorem test_mbDecode : (command 0x00000041
    (withOps 0x01 0x03 0 2 [0x01, 0x03, 0x04, 0x01, 0x02, 0x03, 0x04, 0x5B, 0x3C])).map
    (fun t => (t.status, t.outBuf, t.resRxCrc)) = some (0x00, [0x01, 0x02, 0x03, 0x04], 0x3C5B) := by decide +kernel
/-- V-MB-15: a trailing zero byte passes the CRC and fails the length -/
theorem test_mbDecode_trailing : (command 0x00000041
    (withOps 0x01 0x04 0 1 [0x01, 0x04, 0x02, 0x00, 0xFF, 0xF9, 0x70, 0x00])).map (·.status) = some 0x10 := by
  decide +kernel
/-- V-SYS-1 -/
theorem test_reset : command 0x000000F0
    { withIn [0x01, 0x02] with ftProfile := 0x0102A5A5, crc := 0x947E, opa := 0x05 } = some (State.resetWith 64 0) := by
  decide

/-! ## The host's port (20_memory.md R60 to R63) -/

/-- V-BUF-7 -/
theorem test_window : (nextOf (event (.read 0x1000 4) (withIn [0x12]))).map (·.rdata) = some (some 0x00000012) := by
  decide
theorem test_window_past_end : (nextOf (event (.read 0x2014 4) { withIn [] with outBuf := [0x34] })).map (·.rdata) =
    some (some 0) := by decide
theorem test_caps : (nextOf (event (.read 0x30 4) (State.resetWith 16 0))).map (·.rdata) = some (some 0x00010010) := by
  decide
theorem test_res_crc : (nextOf (event (.read 0x20 4) { withIn [] with resRxCrc := 0x1234, resCalcCrc := 0xABCD })).map
    (·.rdata) = some (some 0xABCD1234) := by decide
theorem test_write_opa : (nextOf (event (.write 0x8 4 0xFFFFFF02) (withIn []))).map (·.opa) = some 0x02 := by decide
theorem test_width_refused : event (.read 0x4 2) (withIn []) = .refused (.accessWidth 2) := rfl
theorem test_misaligned_refused : event (.write 0x6 4 0) (withIn []) = .refused (.misalignedAccess 6) := rfl
theorem test_outside_faults : event (.read 0x4000 4) (withIn []) = .fault (.outsideSpace 0x4000) := rfl

/-! ## Assembly text (30_encoding.md R99, R100) -/

theorem test_asm_update : assembleLine 0 "CRC_UPDATE 0x83 ; a comment" = some [.write 0 4 0x00008302] := by decide
theorem test_asm_push : assembleLine 0 "BUF_PUSH 170" = some [.write 0 4 0x0000AA11] := by decide
theorem test_asm_wr : assembleLine 0x100 "WR OPA, 0x02" = some [.write 0x108 4 0x02] := by decide
theorem test_asm_window : assembleLine 0 "RD OUT[1]" = some [.read 0x2004 4] := by decide
theorem test_asm_word : assembleLine 0 ".word 0x00000006" = some [.write 0 4 0x06] := by decide
theorem test_asm_loadin : assembleLine 0 "LOADIN 0x02, 0x83" =
    some [.write 0 4 0x10, .write 0 4 0x0211, .write 0 4 0x8311] := by decide
theorem test_asm_hex_case : assembleLine 0 "WR FT_PROFILE, 0xeeAAccAA" = some [.write 0x2C 4 0xEEAACCAA] := by decide
/-- Refused by the model's choice (notes/assumptions/8.md). -/
theorem test_asm_register_value : assembleLine 0 "WR OPW1, CRC" = none := by decide
theorem test_asm_big_byte : assembleLine 0 "BUF_PUSH 256" = none := by decide

/-! ## Witnesses: values that meet the hypotheses of each statement -/

theorem witness_DecodeAndEncodeAgree :
    (Instr.bufPush 0xFF).wellFormed = true ∧ decode 0x0000FF11 = .command (.bufPush 0xFF) := by decide

theorem witness_IllegalWordsAreExactlyThese : ∃ why, decode 0x00000042 = .illegal why := ⟨.unassignedOp, by decide⟩

theorem witness_StepRunsTheDecodedCommand :
    ({ withIn [] with bus := [.write 0 4 0x21] } : State).bus = .write (0 + 0x000) 4 0x21 :: [] ∧
    decode 0x21 = .command .destuff ∧ ∃ why, decode 0x22 = .illegal why := ⟨rfl, by decide, .unassignedOp, by decide⟩

theorem witness_HardwareResetEqualsSoftReset :
    ({ withIn [0x01] with bus := [.hardwareReset, .read 0 4] } : State).bus = .hardwareReset :: [.read 0 4] := rfl

theorem witness_CommandsAfterReset : 16 ≤ 16 ∧ 16 ≤ 1024 ∧ 16 ≤ 1024 ∧ 1024 ≤ 1024 := by decide

theorem witness_CrcFeedContinuesOverIn :
    exec .crcFeed { withIn [] with inBuf := [0x02] } = .next { withIn [0x02] with crc := 0x813E } :=
  eq_next_of (by decide)

theorem witness_CrcCheckComparesWithOpw1 :
    crc16 (withOps 0 0 0 0xFFFF []).inBuf = (withOps 0 0 0 0xFFFF []).opw1 ∧
    crc16 (withOps 0 0 0 0x0000 []).inBuf ≠ (withOps 0 0 0 0x0000 []).opw1 := by decide

theorem witness_CrcDetectsEverySingleBitError :
    0 < 8 * ([0x02, 0x83] : List Byte).length ∧ 15 < 8 * ([0x02, 0x83] : List Byte).length := by decide

theorem witness_BufPushAppendsOrOverflows :
    ({ State.resetWith 16 0 with inBuf := List.replicate 15 0x00 } : State).inBuf.length ≠ 16 ∧
    ({ State.resetWith 16 0 with inBuf := List.replicate 16 0x00 } : State).inBuf.length = 16 := by decide

theorem witness_StuffAndDestuffScan : ¬ ((0xAA : Byte) = 0xAA ∧ ([0x01] : List Byte).head? = some 0xAA) := by decide

theorem witness_StuffCommand :
    (stuff ({ State.resetWith 16 0 with inBuf := List.replicate 8 0xAA } : State).inBuf).length ≤ 16 ∧
    16 < (stuff ({ State.resetWith 16 0 with inBuf := List.replicate 9 0xAA } : State).inBuf).length := by decide

theorem witness_DestuffUndoesStuff : (stuff (withIn [0xAA, 0xAA, 0x01]).inBuf).length ≤ (withIn [0xAA, 0xAA, 0x01]).maxBuf := by
  decide

theorem witness_StuffingLengthsAndRuns : isRun [0x01] [0x02] ∧ isRun [] [] := by
  refine ⟨⟨?_, ?_⟩, ⟨?_, ?_⟩⟩ <;> decide

theorem witness_StuffOutputsAreEvenRuns :
    isRun [0x01] [] ∧ ([0x01, 0xAA, 0xAA] : List Byte) = [0x01] ++ List.replicate 2 0xAA ++ [] := by
  refine ⟨⟨?_, ?_⟩, ?_⟩ <;> decide

theorem witness_FtEncodeBuildsTheFrame :
    (ftFrame 0xEEAACCAA 0x01 0x02 (List.replicate 8 0x00)).length ≤ (State.resetWith 16 0).maxBuf ∧
    (State.resetWith 16 0).maxBuf < (ftFrame 0xEEAACCAA 0x01 0x02 (List.replicate 9 0x00)).length := by decide +kernel

theorem witness_FtDecodeOutcomes :
    ftDecode 0xEEAACCAA [0xAA, 0xCC, 0x02, 0x83, 0x41, 0x71, 0xAA, 0xEE] =
      .decoded ⟨0x02, 0x83, [], 0x7141, 0x7141⟩ ∧
    ftDecode 0xEEAACCAA [0xAA, 0xCC, 0xAA, 0xEE] = .error .checksumError ∧
    ftDecode 0xEEAACCAA [0xAA, 0xCC, 0xEE] = .error .frameFormatError := by decide +kernel

theorem witness_FtDecodeCommand :
    ftDecode (withIn []).ftProfile (withIn [0xAA, 0xCC, 0x02, 0x83, 0x41, 0x71, 0xAA, 0xEE]).inBuf =
      .decoded ⟨0x02, 0x83, [], 0x7141, 0x7141⟩ ∧
    ftDecode (withIn []).ftProfile (withIn []).inBuf = .error .frameFormatError ∧
    ftDecode (withIn []).ftProfile (withIn [0xAA, 0xCC, 0xAA, 0xEE]).inBuf = .error .checksumError := by decide +kernel

theorem witness_FastechFrameRoundTrip :
    (ftFrame 0xEEAACCAA 0x01 0x02 (List.replicate 8 0x00)).length ≤
      ({ State.resetWith 16 0 with opa := 0x01, opb := 0x02, inBuf := List.replicate 8 0x00 } : State).maxBuf := by
  decide +kernel

theorem witness_FlippedBodyBitKeepsTheFrame :
    (16 ≤ 16 ∧ 16 < 8 * ((ftFrame 0xEEAACCAA 0x02 0x83 []).length - 2)) ∧
    (16 ≤ 47 ∧ 47 < 8 * ((ftFrame 0xEEAACCAA 0x02 0x83 []).length - 2)) := by decide +kernel

theorem witness_FlippedBodyBitIsDetected :
    0 < 8 * (ftBody 0x02 0x83 []).length ∧
    (destuff (flipBit (ftBody 0x02 0x83 []) 0)).length = (destuff (ftBody 0x02 0x83 [])).length := by decide +kernel

theorem witness_ProfilesMustAgree :
    ¬ (header 0xEEAACCAA = header 0x02550155 ∧ tail 0xEEAACCAA = tail 0x02550155) ∧
    (header 0xEEAACCAA = header 0xEEAACCAA ∧ tail 0xEEAACCAA = tail 0xEEAACCAA) := by decide

theorem witness_MbEncodeBuildsTheRequest :
    ((withOps 0x01 0x06 0 0 []).opb = 0x03 ∨ (withOps 0x01 0x06 0 0 []).opb = 0x04 ∨ (withOps 0x01 0x06 0 0 []).opb = 0x06) ∧
    (withOps 0x01 0x05 0 0 []).opb ≠ 0x03 ∧ (withOps 0x01 0x05 0 0 []).opb ≠ 0x04 ∧ (withOps 0x01 0x05 0 0 []).opb ≠ 0x06 := by
  decide

/-- The response of V-MB-13: quantity 0. -/
theorem witness_MbDecodeCommand :
    mbCheck [0x01, 0x03, 0x00, 0x20, 0xF0] 0x01 0x03 0 = .decoded ⟨0x01, 0x03, [], 0xF020, 0xF020⟩ ∧
    mbCheck [] 0x01 0x03 0 = .error .frameFormatError ∧ (withOps 0x01 0x10 0 0 []).opb ≠ 0x03 ∧
    (withOps 0x01 0x10 0 0 []).opb ≠ 0x04 ∧ (withOps 0x01 0x10 0 0 []).opb ≠ 0x06 := by decide +kernel

/-- What MB_DECODE leaves in STATUS. -/
def mbStatus (s : State) : Option Byte := (nextOf (exec .mbDecode s)).map (·.status)

/-- Both bounds of a read response: 0 data bytes (V-MB-13), which MB_DECODE accepts, and 254, the most that has the
response's shape; past it, the byte count of 256 data bytes would wrap to 0. Then the echo of V-MB-14a, whose four data
bytes have the shape of a write response, and a function code with no response. -/
theorem witness_MbDecodeAcceptsExactly :
    ((withOps 0x01 0x03 0 0 [0x01, 0x03, 0x00, 0x20, 0xF0]).opb = 0x03 ∧
      mbStatus (withOps 0x01 0x03 0 0 [0x01, 0x03, 0x00, 0x20, 0xF0]) = some 0x00) ∧
    ((List.replicate 254 (0x00 : Byte)).length = 2 * (withOps 0x01 0x04 0 127 []).opw1.toNat ∧
      (List.replicate 254 (0x00 : Byte)).length < 256 ∧ (withOps 0x01 0x04 0 127 []).opb = 0x04) ∧
    (mbStatus (withOps 0x01 0x03 0 128 [0x01, 0x03, 0x00, 0x20, 0xF0]) = some 0x12 ∧
      ¬ (List.replicate 256 (0x00 : Byte)).length < 256) ∧
    ((withOps 0x01 0x06 0 5 [0x01, 0x06, 0x01, 0x01, 0x00, 0x05, 0x19, 0xF5]).opb = 0x06 ∧
      mbStatus (withOps 0x01 0x06 0 5 [0x01, 0x06, 0x01, 0x01, 0x00, 0x05, 0x19, 0xF5]) = some 0x00) ∧
    ((withOps 0x01 0x10 0 0 []).opb ≠ 0x03 ∧ (withOps 0x01 0x10 0 0 []).opb ≠ 0x04 ∧
      (withOps 0x01 0x10 0 0 []).opb ≠ 0x06) := by
  refine ⟨by decide +kernel, ?_, ⟨by decide +kernel, ?_⟩, by decide +kernel, by decide⟩
  · rw [List.length_replicate]
    decide
  · rw [List.length_replicate]
    decide

/-- The first clause has no hypothesis; each of its codes is met on a response of 95_test_vectors.md: V-MB-25, 17a, 20a,
20b, 19b, 22, 14a, 18, 20c, 10. The other clauses follow in their order. -/
theorem witness_MbCheckConsequences :
    (mbStatus (withOps 0x01 0x10 0 1 [0x01, 0x04, 0x02, 0x00, 0xFF, 0xF9, 0x70]) = some 0x13 ∧
      mbStatus (withOps 0x01 0x04 0 1 [0x01, 0x04, 0x02, 0x00]) = some 0x10 ∧
      mbStatus (withOps 0x02 0x04 0 1 [0x01, 0x04, 0x02, 0x00, 0xFF, 0xF9, 0x70]) = some 0x12 ∧
      mbStatus (withOps 0x01 0x03 0 1 [0x01, 0x04, 0x02, 0x00, 0xFF, 0xF9, 0x70]) = some 0x12 ∧
      mbStatus (withOps 0x01 0x04 0 1 [0x01, 0x04, 0x02, 0x00, 0xFF, 0x70, 0xF9]) = some 0x11 ∧
      mbStatus (withOps 0x01 0x06 0 5 [0x01, 0x06, 0x01, 0x01, 0x00, 0x05, 0x00, 0x34, 0xCA]) = some 0x10 ∧
      mbStatus (withOps 0x01 0x06 0 5 [0x01, 0x06, 0x01, 0x01, 0x00, 0x05, 0x19, 0xF5]) = some 0x00 ∧
      mbStatus (withOps 0x01 0x04 0 1 [0x01, 0x04, 0x03, 0x00, 0xFF, 0xA8, 0xB0]) = some 0x10 ∧
      mbStatus (withOps 0x01 0x04 0 2 [0x01, 0x04, 0x02, 0x00, 0xFF, 0xF9, 0x70]) = some 0x12 ∧
      mbStatus (withOps 0x01 0x04 0 1 [0x01, 0x04, 0x02, 0x00, 0xFF, 0xF9, 0x70]) = some 0x00) ∧
    ((withOps 0x01 0x03 0 128 []).opb = 0x03 ∧ 127 < (withOps 0x01 0x03 0 128 []).opw1.toNat ∧
      exec .mbDecode (withOps 0x01 0x03 0 128 []) = .next { withOps 0x01 0x03 0 128 [] with status := 0x10 }) ∧
    (5 ≤ ([0x01, 0x84, 0x02, 0xC2, 0xC1] : List Byte).length ∧
      ([0x01, 0x84, 0x02, 0xC2, 0xC1] : List Byte).getD 1 0 = 0x04 ||| 0x80) ∧
    ([0x02, 0x84, 0x02, 0x32, 0xC1] : List Byte).getD 0 0 ≠ 0x01 ∧
    (0x03 : Byte).toNat ≠ ([0x00, 0xFF] : List Byte).length :=
  ⟨by decide +kernel, ⟨rfl, by decide, eq_next_of (by decide)⟩, by decide, by decide, by decide⟩

theorem witness_ModbusDetectsEverySingleBitError :
    ∃ t, exec .mbDecode (withOps 0x01 0x03 0 0 [0x01, 0x03, 0x00, 0x20, 0xF0]) = .next t ∧ t.status = 0x00 ∧
      39 < 8 * (withOps 0x01 0x03 0 0 [0x01, 0x03, 0x00, 0x20, 0xF0]).inBuf.length :=
  ⟨{ withOps 0x01 0x03 0 0 [0x01, 0x03, 0x00, 0x20, 0xF0] with
      resSlave := 0x01, resType := 0x03, resRxCrc := 0xF020, resCalcCrc := 0xF020, outBuf := [], status := 0x00 },
    eq_next_of (by decide +kernel), rfl, by decide⟩

theorem witness_MbWriteEchoRoundTrip : (withOps 0x01 0x06 0xFFFF 0x0000 []).opb = 0x06 := rfl

theorem witness_FailedCommandChangesOnlyStatus :
    ({ withIn [0x07] with bus := [.write 0 4 0x31] } : State).bus = .write (0 + 0x000) 4 0x31 :: [] ∧
    step { withIn [0x07] with bus := [.write 0 4 0x31] } = .next { withIn [0x07] with status := 0x10 } ∧
    (0x10 : Byte) ≠ 0x00 := ⟨rfl, eq_next_of (by decide), by decide⟩

theorem witness_CommandsReadAndWriteOnlyTheirRow :
    exec .bufClear (withIn [0x07]) = .next (withIn []) ∧ Loc.outBuf ∉ writes .bufClear ∧
    exec .ftDecode (withIn [0x07]) = .next { withIn [0x07] with status := 0x10 } ∧
    (∀ l ∈ reads .bufClear, agreesAt (withIn [0x07]) (withIn [0x08]) l) ∧ exec .bufClear (withIn [0x08]) = .next (withIn []) :=
  ⟨rfl, by decide, eq_next_of (by decide), by simp [reads], rfl⟩

/-- A state whose buffers are full, at the least capacity. -/
def fullState : State :=
  { State.resetWith 16 0 with inBuf := List.replicate 16 0x00, outBuf := List.replicate 16 0x00 }

/-- A good state at the bound, whose next access pushes a byte. -/
theorem witness_StepKeepsGoodStates :
    State.Good { fullState with bus := [.write 0 4 0x0011] } ∧
    step { fullState with bus := [.write 0 4 0x0011] } = .next { fullState with status := 0x02 } := by
  refine ⟨?_, eq_next_of (by decide)⟩
  unfold State.Good
  decide

theorem witness_ResetStateIsGood : State.Good State.reset ∧ 16 ≤ 16 ∧ 1024 ≤ 1024 := by
  refine ⟨?_, by decide, by decide⟩
  unfold State.Good
  decide

theorem witness_DefinedAccessesNeverStop :
    State.BusDefined { State.resetWith 16 0x100 with bus := [.write 0x100 4 0xFFFFFFFF, .read 0x40FC 4, .hardwareReset] } := by
  unfold State.BusDefined
  decide

theorem witness_AccessesServedInOrder :
    step { withIn [0x12] with bus := [.read 0x1000 4, .hardwareReset] } =
      .next { withIn [0x12] with bus := [.hardwareReset], rdata := some 0x12 } ∧ (withIn []).bus = [] :=
  ⟨eq_next_of (by decide +kernel), rfl⟩

theorem witness_HostAccessRules :
    (0 < 1024 ∧ 1023 < 1024) ∧ decode 0x00000010 = .command .bufClear ∧ decode 0x00000101 = .illegal .unusedImmediate ∧
    0x3FFE < 0x4000 ∧ (2 ≠ 4 ∨ 0x3FFE % 4 ≠ 0) := by
  decide

theorem witness_WindowsShowTheBuffers : 0 < 1024 ∧ 1023 < 1024 := by decide

theorem witness_ReservedOffsetsReadZero :
    (0x0034 % 4 = 0 ∧ 0x0034 ≤ 0x0034 ∧ 0x0034 < 0x1000) ∧ (0x0FFC % 4 = 0 ∧ 0x0034 ≤ 0x0FFC ∧ 0x0FFC < 0x1000) ∧
    (0x3000 % 4 = 0 ∧ 0x3000 ≤ 0x3000 ∧ 0x3000 < 0x4000) ∧ (0x3FFC % 4 = 0 ∧ 0x3000 ≤ 0x3FFC ∧ 0x3FFC < 0x4000) := by decide

theorem witness_AccessOutsideTheSpaceFaults :
    0xFF < (State.resetWith 16 0x100).base ∧ (State.resetWith 16 0x100).base + 0x4000 ≤ 0x4100 ∧
    ({ State.resetWith 16 0x100 with bus := [.read 0x4100 4] } : State).bus = .read 0x4100 4 :: [] ∧
    ({ State.resetWith 16 0x100 with bus := [.write 0xFF 1 0] } : State).bus = .write 0xFF 1 0 :: [] := by decide

theorem witness_ReadsHaveNoSideEffects :
    (0x3FFC < 0x4000 ∧ 0x3FFC % 4 = 0) ∧ 0x02C ∈ [0x008, 0x00C, 0x010, 0x014, 0x02C] ∧
    step { withIn [] with bus := [.write 0x2C 4 0x02550155, .write 0x2C 4 0x02550155] } =
      .next { withIn [] with bus := [.write 0x2C 4 0x02550155], ftProfile := 0x02550155 } ∧
    ({ State.resetWith 16 0 with inBuf := List.replicate 14 0x00 } : State).inBuf.length + 1 < 16 :=
  ⟨by decide, by decide, eq_next_of (by decide), by decide⟩

theorem witness_InstancesShareNothing :
    ([withIn [], withIn [0x07]] : List State)[1]? = some (withIn [0x07]) ∧ step (withIn [0x07]) = .next (withIn [0x07]) :=
  ⟨rfl, rfl⟩

end Sys2Proof.Tests
end

section
/-! Decoding (30_encoding.md, R90 to R97). A row of the opcode map matches a word field by field and no two rows share an OP,
so the decoder's search finds the one row that matches, or none. -/

namespace Sys2Proof.Encoding

open Sys2Proof.Machine

/-! ## Words and their fields (R91) -/

/-- The three fields of format C make up the whole word. -/
theorem word_eq_iff_fields (v w : Word) :
    v = w ↔ opField v = opField w ∧ immField v = immField w ∧ rsvdField v = rsvdField w := by
  constructor
  · rintro rfl
    exact ⟨rfl, rfl, rfl⟩
  · rintro ⟨hop, himm, hrsvd⟩
    simp only [opField, immField, rsvdField, ← BitVec.toNat_inj, BitVec.extractLsb'_toNat,
      Nat.shiftRight_eq_div_pow] at hop himm hrsvd
    apply BitVec.eq_of_toNat_eq
    omega

/-- Masking acts on each field by itself. -/
theorem and_eq_iff_fields (w m p : Word) :
    w &&& m = p ↔ opField w &&& opField m = opField p ∧ immField w &&& immField m = immField p ∧
      rsvdField w &&& rsvdField m = rsvdField p := by
  rw [word_eq_iff_fields]
  simp only [opField, immField, rsvdField, BitVec.extractLsb'_and]

/-! ## The rows of the opcode map (R95) -/

/-- The OP that a row asks for. -/
def rowOp (r : Row) : Byte := opField r.pattern

/-- The two OPs whose IMM8 is free: CRC_UPDATE and BUF_PUSH (R93). -/
abbrev takesImmediate (op : Byte) : Prop := op = 0x02 ∨ op = 0x11

/-- The assigned OPs, in the order of the map. -/
theorem rows_map_rowOp : rows.map rowOp =
    [0x00, 0x01, 0x02, 0x03, 0x04, 0x05, 0x10, 0x11, 0x12, 0x20, 0x21, 0x30, 0x31, 0x40, 0x41, 0xF0] := by decide

theorem rows_op_nodup : (rows.map rowOp).Nodup := by rw [rows_map_rowOp]; decide

/-- Each row's mask covers OP and RSVD, and covers IMM8 unless the row takes it as its operand; RSVD and a covered IMM8 are
to be 0. -/
theorem row_mask_and_pattern : ∀ r ∈ rows,
    opField r.mask = 0xFF ∧ rsvdField r.mask = 0xFFFF ∧
    (takesImmediate (rowOp r) → immField r.mask = 0x00) ∧ (¬ takesImmediate (rowOp r) → immField r.mask = 0xFF) ∧
    rsvdField r.pattern = 0 ∧ immField r.pattern = 0 := by decide

/-- What it is for a row to match a word, said of the word's fields. -/
theorem rowMatches_iff_fields (w : Word) {r : Row} (hr : r ∈ rows) :
    rowMatches w r = true ↔
      opField w = rowOp r ∧ rsvdField w = 0 ∧ (takesImmediate (rowOp r) ∨ immField w = 0) := by
  obtain ⟨hop, hrsvd, hfree, hcovered, hrsvd0, himm0⟩ := row_mask_and_pattern r hr
  have hop' : opField w &&& 0xFF = opField w := BitVec.and_allOnes
  have hrsvd' : rsvdField w &&& 0xFFFF = rsvdField w := BitVec.and_allOnes
  have himm' : immField w &&& 0xFF = immField w := BitVec.and_allOnes
  rw [rowMatches, beq_iff_eq, and_eq_iff_fields, hop, hrsvd, hrsvd0, himm0, hop', hrsvd', ← rowOp]
  by_cases h : takesImmediate (rowOp r)
  · simp [hfree h, h]
  · rw [hcovered h, himm']
    simp [h, and_comm]

/-- At most one row matches any word (R95): a matching row's OP is the word's, and no OP stands in two rows. -/
theorem matching_row_unique (w : Word) {r r' : Row} (hr : r ∈ rows) (hr' : r' ∈ rows)
    (h : rowMatches w r = true) (h' : rowMatches w r' = true) : r = r' := by
  obtain ⟨hop, -⟩ := (rowMatches_iff_fields w hr).1 h
  obtain ⟨hop', -⟩ := (rowMatches_iff_fields w hr').1 h'
  exact List.inj_on_of_nodup_map rows_op_nodup hr hr' (hop.symm.trans hop')

/-- The count of matching rows, from the OPs of the matching rows: they are all equal and all different. -/
theorem matching_rows_length_le_one (w : Word) : (rows.filter (rowMatches w)).length ≤ 1 := by
  have hnodup : ((rows.filter (rowMatches w)).map rowOp).Nodup :=
    rows_op_nodup.sublist (List.filter_sublist.map rowOp)
  have hconst : (rows.filter (rowMatches w)).map rowOp =
      List.replicate (rows.filter (rowMatches w)).length (opField w) := by
    refine List.eq_replicate_iff.2 ⟨List.length_map _, fun op hop => ?_⟩
    obtain ⟨r, hr, rfl⟩ := List.mem_map.1 hop
    obtain ⟨hrow, hmatch⟩ := List.mem_filter.1 hr
    exact ((rowMatches_iff_fields w hrow).1 hmatch).1.symm
  exact List.nodup_replicate.1 (hconst ▸ hnodup)

/-! ## The decoder (R96) -/

/-- The search finds the row that matches, whichever place it stands at. -/
theorem find_rowMatches_iff (w : Word) (r : Row) :
    rows.find? (rowMatches w) = some r ↔ r ∈ rows ∧ rowMatches w r = true := by
  constructor
  · intro h
    exact ⟨List.mem_of_find?_eq_some h, List.find?_some h⟩
  · rintro ⟨hr, hmatch⟩
    cases hfind : rows.find? (rowMatches w) with
    | none => exact absurd hmatch (List.find?_eq_none.1 hfind r hr)
    | some r' =>
      rw [matching_row_unique w hr (List.mem_of_find?_eq_some hfind) hmatch (List.find?_some hfind)]

/-- A word decodes to a command exactly when a row matches it and builds that command from its IMM8. -/
theorem decode_eq_command_iff (w : Word) (i : Instr) :
    decode w = .command i ↔ ∃ r ∈ rows, rowMatches w r = true ∧ r.build (immField w) = i := by
  have hdecode : decode w = .command i ↔ ∃ r, rows.find? (rowMatches w) = some r ∧ r.build (immField w) = i := by
    unfold decode
    cases rows.find? (rowMatches w) <;> simp
  simp only [hdecode, find_rowMatches_iff, and_assoc]

/-- A word is illegal exactly when no row matches it. -/
theorem decode_illegal_iff (w : Word) :
    (∃ why, decode w = .illegal why) ↔ ¬ ∃ r ∈ rows, rowMatches w r = true := by
  unfold decode
  cases hfind : rows.find? (rowMatches w) with
  | none => simpa using List.find?_eq_none.1 hfind
  | some r => simpa using ⟨r, (find_rowMatches_iff w r).1 hfind⟩

/-- What a row builds is a command with the row's OP. -/
theorem opcode_build : ∀ r ∈ rows, ∀ b, opcode (r.build b) = rowOp r := by
  simp [rows, opcode, rowOp, opField]

/-- The command of one row: the word matches that row, and IMM8 gives the operand. -/
theorem decode_eq_build_iff (w : Word) {r : Row} (hr : r ∈ rows) (b : Byte) :
    decode w = .command (r.build b) ↔ w &&& r.mask = r.pattern ∧ r.build (immField w) = r.build b := by
  rw [decode_eq_command_iff, ← beq_iff_eq (a := w &&& r.mask), ← rowMatches]
  constructor
  · rintro ⟨r', hr', hmatch, hbuild⟩
    have hop : rowOp r' = rowOp r := by
      rw [← opcode_build r' hr' (immField w), hbuild, opcode_build r hr b]
    obtain rfl := List.inj_on_of_nodup_map rows_op_nodup hr' hr hop
    exact ⟨hmatch, hbuild⟩
  · rintro ⟨hmatch, hbuild⟩
    exact ⟨r, hr, hmatch, hbuild⟩

/-- A row without operand: its command comes from its words and from no others. -/
theorem decode_eq_plain_iff (w : Word) {p m : Word} {i : Instr} (hr : ⟨p, m, fun _ => i⟩ ∈ rows) :
    decode w = .command i ↔ w &&& m = p :=
  (decode_eq_build_iff w hr 0).trans (and_iff_left rfl)

/-- A row with an operand: its commands come from its words, each with the word's IMM8. -/
theorem decode_eq_immediate_iff (w : Word) {p m : Word} {c : Byte → Instr} (hr : ⟨p, m, c⟩ ∈ rows)
    (hc : Function.Injective c) (b : Byte) :
    decode w = .command (c b) ↔ w &&& m = p ∧ b = w.extractLsb' 8 8 :=
  (decode_eq_build_iff w hr b).trans (and_congr_right' (hc.eq_iff.trans eq_comm))

/-! ## The illegal words (R97) -/

/-- The OPs of no row are those of the six ranges. -/
theorem op_unassigned_iff (op : Byte) :
    op ∉ rows.map rowOp ↔
      ∃ lo hi : Nat, (lo, hi) ∈ [(0x06, 0x0F), (0x13, 0x1F), (0x22, 0x2F), (0x32, 0x3F), (0x42, 0xEF), (0xF1, 0xFF)] ∧
        lo ≤ op.toNat ∧ op.toNat ≤ hi := by
  have hlt : op.toNat < 256 := op.isLt
  simp only [rows_map_rowOp, List.mem_cons, List.not_mem_nil, ← BitVec.toNat_inj, BitVec.ofNat_eq_ofNat,
    BitVec.toNat_ofNat, Nat.reducePow, Nat.reduceMod, Nat.zero_mod, Nat.one_mod, Prod.mk.injEq, or_and_right, and_assoc,
    exists_or, ↓existsAndEq, true_and, or_false]
  omega

/-- A word is illegal for its OP, for its RSVD, or for an IMM8 that no operand takes. -/
theorem decode_illegal_iff_fields (w : Word) :
    (∃ why, decode w = .illegal why) ↔
      opField w ∉ rows.map rowOp ∨ rsvdField w ≠ 0 ∨ (¬ takesImmediate (opField w) ∧ immField w ≠ 0) := by
  have hlegal : (∃ r ∈ rows, rowMatches w r = true) ↔
      opField w ∈ rows.map rowOp ∧ rsvdField w = 0 ∧ (takesImmediate (opField w) ∨ immField w = 0) := by
    constructor
    · rintro ⟨r, hr, hmatch⟩
      obtain ⟨hop, hrest⟩ := (rowMatches_iff_fields w hr).1 hmatch
      rw [hop]
      exact ⟨List.mem_map_of_mem hr, hrest⟩
    · rintro ⟨hop, hrest⟩
      obtain ⟨r, hr, hrop⟩ := List.mem_map.1 hop
      rw [← hrop] at hrest
      exact ⟨r, hr, (rowMatches_iff_fields w hr).2 ⟨hrop.symm, hrest⟩⟩
  rw [decode_illegal_iff, hlegal]
  tauto

/-! ## The write to CMD (R90) -/

/-- A write to CMD of a command's word runs the command on the state without the write. -/
theorem step_commandWrite_of_command (s : State) (w : Word) (es : List BusEvent) (i : Instr)
    (hbus : s.bus = .write (s.base + regOffset .cmd) 4 w :: es) (hw : decode w = .command i) :
    step s = exec i (s.setBus es) := by
  rw [step_commandWrite s w es hbus, writeCmd, hw]

/-- A write to CMD of an illegal word sets STATUS to ILLEGAL_COMMAND and only takes the write off the bus. -/
theorem step_commandWrite_of_illegal (s : State) (w : Word) (es : List BusEvent) (why : Illegal)
    (hbus : s.bus = .write (s.base + regOffset .cmd) 4 w :: es) (hw : decode w = .illegal why) :
    step s = .next ((s.setBus es).setStatus .illegalCommand) := by
  rw [step_commandWrite s w es hbus, writeCmd, hw]
  rfl

/-! ## The obligations -/

/-- Settles O5: the access at offset 0 is the write to CMD, which executes what the decoder answers. -/
theorem stepRunsTheDecodedCommand : Obligations.StepRunsTheDecodedCommand := by
  intro s rest w hbus
  exact ⟨fun i hw => step_commandWrite_of_command s w rest i hbus hw,
    fun why hw => step_commandWrite_of_illegal s w rest why hbus hw⟩

/-- Settles O2, row by row, from the search's finding the one row that matches. -/
theorem decodeFollowsOpcodeMap : Obligations.DecodeFollowsOpcodeMap := by
  have hUpdate : Function.Injective Instr.crcUpdate := fun _ _ h => Instr.crcUpdate.inj h
  have hPush : Function.Injective Instr.bufPush := fun _ _ h => Instr.bufPush.inj h
  intro w
  refine ⟨?nop, ?crcInit, ?crcUpdate, ?crcFeed, ?crcCompute, ?crcCheck, ?bufClear, ?bufPush, ?bufXfer, ?stuff, ?destuff,
    ?ftEncode, ?ftDecode, ?mbEncode, ?mbDecode, ?reset, matching_rows_length_le_one w⟩
  case crcUpdate => exact decode_eq_immediate_iff w (by simp [rows]) hUpdate
  case bufPush => exact decode_eq_immediate_iff w (by simp [rows]) hPush
  all_goals exact decode_eq_plain_iff w (by simp [rows])

/-- Settles O4: a word that no row matches fails in one of its three fields, and its execution is the illegal write. -/
theorem illegalWordsAreExactlyThese : Obligations.IllegalWordsAreExactlyThese := by
  intro w
  constructor
  · rw [decode_illegal_iff_fields, op_unassigned_iff, takesImmediate, not_or, and_assoc]
    rfl
  · rintro ⟨why, hw⟩ s rest
    exact step_commandWrite_of_illegal _ w rest why rfl hw

end Sys2Proof.Encoding
end

section
/-! The Checksum Unit (40_crc.md, R110 to R120). The CRC's bit loop is an iterate, its byte loop an append law, and each of
its commands is a whole-state equation. The word of CRC_UPDATE decodes because its immediate byte touches IMM8 alone. -/

namespace Sys2Proof.Checksum

open Sys2Proof.Machine Sys2Proof.Claims Sys2Proof.Encoding

/-! ## Words with an immediate byte (R93, R99) -/

theorem opField_immWord (op : Word) (b : Byte) : opField (immWord op b) = opField op := by
  ext i hi
  simp [opField, immWord, hi]

theorem immField_immWord (op : Word) (b : Byte) : immField (immWord op b) = immField op ||| b := by
  ext i hi
  have hlt : 8 + i < 32 := by omega
  simp [immField, immWord, hlt, BitVec.getLsbD_eq_getElem hi]

theorem rsvdField_immWord (op : Word) (b : Byte) : rsvdField (immWord op b) = rsvdField op := by
  ext i hi
  have hge : 8 ≤ 16 + i - 8 := by omega
  simp [rsvdField, immWord, BitVec.getLsbD_of_ge b _ hge]

/-- A row that takes an immediate reads back the byte its word was built with: OP and RSVD stay the pattern's, and the
pattern's IMM8 is 0. -/
theorem decode_immWord {p m : Word} {c : Byte → Instr} (hr : ⟨p, m, c⟩ ∈ rows) (himm : takesImmediate (opField p))
    (b : Byte) : decode (immWord p b) = .command (c b) := by
  obtain ⟨-, -, -, -, hrsvd, hzero⟩ := row_mask_and_pattern _ hr
  refine (decode_eq_command_iff _ _).2 ⟨_, hr, (rowMatches_iff_fields _ hr).2 ⟨?op, ?rsvd, .inl himm⟩, ?build⟩
  case op => exact opField_immWord p b
  case rsvd => exact (rsvdField_immWord p b).trans hrsvd
  case build =>
    have hb : immField (immWord p b) = b := (immField_immWord p b).trans (hzero ▸ BitVec.zero_or)
    exact congrArg c hb

/-! ## The algorithm (R110 to R112) -/

/-- The counted loop is the iterate of its body. -/
theorem crcBits_eq_iterate (n : Nat) (c : U16) : crcBits n c = crcBit^[n] c := by
  induction n generalizing c with
  | zero => rfl
  | succ n ih => exact ih (crcBit c)

/-- A byte XORed in leaves the high byte alone. -/
theorem highByte_xor_byte (c : U16) (b : Byte) : highByte (c ^^^ b.setWidth 16) = highByte c := by
  ext i hi
  simp [highByte]

theorem crc16_nil : crc16 [] = 0xFFFF := rfl

/-- The last byte of a sequence is one step of the CRC of the bytes before it. -/
theorem crc16_concat (s : List Byte) (b : Byte) : crc16 (s ++ [b]) = crcStep (crc16 s) b := by
  rw [crc16_append, crcFold_cons, crcFold_nil]

theorem crc16Verify_iff (s : List Byte) (c : U16) : crc16Verify s c = true ↔ crc16 s = c := by
  rw [crc16Verify, beq_iff_eq]

/-! ## The commands (R116, R117, R119, R120) -/

theorem exec_crcInit (s : State) : exec .crcInit s = .next ((s.setCrc 0xFFFF).setStatus .ok) := rfl

theorem exec_crcUpdate (b : Byte) (s : State) :
    exec (.crcUpdate b) s = .next ((s.setCrc (crcStep s.crc b)).setStatus .ok) := rfl

theorem exec_crcCompute (s : State) : exec .crcCompute s = .next ((s.setCrc (crc16 s.inBuf)).setStatus .ok) := rfl

/-- CRC_CHECK records both CRCs when they agree. -/
theorem exec_crcCheck_of_eq (s : State) (h : crc16 s.inBuf = s.opw1) :
    exec .crcCheck s = .next (((s.setResRxCrc s.opw1).setResCalcCrc (crc16 s.inBuf)).setStatus .ok) :=
  if_pos ((crc16Verify_iff _ _).2 h)

/-- CRC_CHECK fails with CHECKSUM_ERROR when they differ. -/
theorem exec_crcCheck_of_ne (s : State) (h : crc16 s.inBuf ≠ s.opw1) :
    exec .crcCheck s = .next (s.setStatus .checksumError) :=
  if_neg (mt (crc16Verify_iff _ _).1 h)

/-! ## The obligations -/

/-- Settles O10: the step is the iterated loop body, and the first XOR does not reach the high byte. -/
theorem crcStepIsTheBitLoop : Obligations.CrcStepIsTheBitLoop := by
  intro c b
  exact ⟨crcBits_eq_iterate 8 (c ^^^ b.setWidth 16), highByte_xor_byte c b⟩

/-- Settles O11. -/
theorem crcTakesBytesInOrderFromSeed : Obligations.CrcTakesBytesInOrderFromSeed :=
  ⟨crc16_nil, crc16_concat⟩

/-- Settles O12. -/
theorem crcVerifyAcceptsExactlyTheCrc : Obligations.CrcVerifyAcceptsExactlyTheCrc :=
  ⟨crc16Verify_iff, fun s => (crc16Verify_iff s (crc16 s)).2 rfl⟩

/-- Settles O13. -/
theorem crcInitSetsSeed : Obligations.CrcInitSetsSeed :=
  ⟨by decide, exec_crcInit⟩

/-- Settles O14: the word's row takes its IMM8 as the operand, and the command is one step with it. -/
theorem crcUpdateFeedsTheImmediate : Obligations.CrcUpdateFeedsTheImmediate :=
  ⟨decode_immWord (m := 0xFFFF00FF) (by simp [rows]) (by decide), exec_crcUpdate⟩

/-- Settles O16. -/
theorem crcComputeIsCrcOfIn : Obligations.CrcComputeIsCrcOfIn :=
  ⟨by decide, exec_crcCompute⟩

/-- Settles O17, one command equation for each result of the comparison. -/
theorem crcCheckComparesWithOpw1 : Obligations.CrcCheckComparesWithOpw1 :=
  ⟨by decide, exec_crcCheck_of_eq, exec_crcCheck_of_ne⟩

end Sys2Proof.Checksum
end

section
/-! The buffer commands (41_buffer.md, R140 to R142). Each command is a whole-state equation, BUF_PUSH one for each branch of
its test for room in IN. -/

namespace Sys2Proof.Buffers

open Sys2Proof.Machine Sys2Proof.Claims Sys2Proof.Encoding Sys2Proof.Checksum

/-! ## The commands -/

theorem exec_bufClear (s : State) : exec .bufClear s = .next ((s.setIn []).setStatus .ok) := rfl

/-- BUF_PUSH appends its byte while IN has room. -/
theorem exec_bufPush_of_ne (b : Byte) (s : State) (h : s.inBuf.length ≠ s.maxBuf) :
    exec (.bufPush b) s = .next ((s.setIn (s.inBuf ++ [b])).setStatus .ok) :=
  if_neg h

/-- BUF_PUSH drops its byte and reports OVERFLOW when IN is full. -/
theorem exec_bufPush_of_eq (b : Byte) (s : State) (h : s.inBuf.length = s.maxBuf) :
    exec (.bufPush b) s = .next (s.setStatus .overflow) :=
  if_pos h

theorem exec_bufXfer (s : State) : exec .bufXfer s = .next (((s.setIn s.outBuf).setOut []).setStatus .ok) := rfl

/-! ## The obligations -/

/-- Settles O21. -/
theorem bufClearEmptiesIn : Obligations.BufClearEmptiesIn :=
  ⟨by decide, exec_bufClear⟩

/-- Settles O22: the word's row takes its IMM8 as the operand, and each branch of the test for room has its equation. -/
theorem bufPushAppendsOrOverflows : Obligations.BufPushAppendsOrOverflows :=
  ⟨decode_immWord (m := 0xFFFF00FF) (by simp [rows]) (by decide), exec_bufPush_of_ne, exec_bufPush_of_eq⟩

/-- Settles O23. -/
theorem bufXferMovesOutToIn : Obligations.BufXferMovesOutToIn :=
  ⟨by decide, exec_bufXfer⟩

end Sys2Proof.Buffers
end

section
/-! The Byte-Stuffing Codec (42_stuffing.md, R161 to R168). `stuff` is a concatenation of what it emits for each byte, so it
appends and its length counts the doubled bytes; `destuff` follows its own scan. Each command is a whole-state equation,
STUFF one for each branch of its test for room in OUT. -/

namespace Sys2Proof.Stuffing

open Sys2Proof.Machine

/-! ## The two scans (R161, R162) -/

/-- One byte emits itself, and 0xAA a second time. -/
theorem stuff_singleton (b : Byte) : stuff [b] = [b] ++ (if b = 0xAA then [0xAA] else []) := by
  by_cases h : b = 0xAA
  · subst h
    rfl
  · rw [stuff_cons_ne b [] h, if_neg h]
    rfl

/-- What a byte emits does not depend on the bytes after it. -/
theorem stuff_cons (b : Byte) (s : List Byte) : stuff (b :: s) = stuff [b] ++ stuff s := by
  by_cases h : b = 0xAA
  · subst h
    simp
  · simp [stuff_cons_ne b _ h]

theorem stuff_append (s t : List Byte) : stuff (s ++ t) = stuff s ++ stuff t := by
  induction s with
  | nil => rfl
  | cons b s ih => rw [List.cons_append, stuff_cons, ih, stuff_cons b s, List.append_assoc]

/-- Stuffing adds one byte for each 0xAA (R164). -/
theorem stuff_length (s : List Byte) : (stuff s).length = s.length + s.count 0xAA := by
  induction s with
  | nil => rfl
  | cons b s ih =>
    by_cases h : b = 0xAA
    · subst h
      simp [ih]
      omega
    · rw [stuff_cons_ne b s h, List.length_cons, List.length_cons, List.count_cons_of_ne h, ih]
      omega

/-- A first byte that does not begin an adjacent pair is copied: it is not 0xAA, or it is a lone one. -/
theorem destuff_cons_of_not_pair (b : Byte) (s : List Byte) (h : ¬ (b = 0xAA ∧ s.head? = some 0xAA)) :
    destuff (b :: s) = b :: destuff s := by
  cases s with
  | nil => rfl
  | cons c s => exact if_neg fun hpair => h ⟨hpair.1, congrArg some hpair.2⟩

/-- Destuffing drops one byte for each pair that the scan consumes, and adds none (R164). -/
theorem destuff_length_le (t : List Byte) : (destuff t).length ≤ t.length := by
  fun_induction destuff t with
  | case1 => exact Nat.le_refl 0
  | case2 b => exact Nat.le_refl 1
  | case3 a b s hpair ih =>
    simp only [List.length_cons]
    omega
  | case4 a b s hpair ih =>
    simp only [List.length_cons] at ih ⊢
    omega

/-! ## The commands (R167, R168) -/

/-- STUFF writes its result to OUT when the capacity holds it. -/
theorem exec_stuff_of_le (s : State) (h : (stuff s.inBuf).length ≤ s.maxBuf) :
    exec .stuff s = .next ((s.setOut (stuff s.inBuf)).setStatus .ok) :=
  if_neg (Nat.not_lt.2 h)

/-- STUFF keeps OUT and reports OVERFLOW when its result is longer than the capacity. -/
theorem exec_stuff_of_lt (s : State) (h : s.maxBuf < (stuff s.inBuf).length) :
    exec .stuff s = .next (s.setStatus .overflow) :=
  if_pos h

theorem exec_destuff (s : State) : exec .destuff s = .next ((s.setOut (destuff s.inBuf)).setStatus .ok) := rfl

/-! ## The obligations -/

/-- Settles O25: one equation for each branch of the test for room, and the length law at IN. -/
theorem stuffCommand : Obligations.StuffCommand :=
  ⟨by decide, exec_stuff_of_le, exec_stuff_of_lt, fun s => stuff_length s.inBuf⟩

/-- Settles O24: the last byte's contribution to `stuff`, and the two cases of the scan of `destuff`. -/
theorem stuffAndDestuffScan : Obligations.StuffAndDestuffScan := by
  refine ⟨stuff_nil, fun s b => ?_, destuff_nil, destuff_pair, destuff_cons_of_not_pair⟩
  rw [stuff_append, stuff_singleton, List.append_assoc]

/-- Settles O26. -/
theorem destuffCommand : Obligations.DestuffCommand :=
  ⟨by decide, exec_destuff, destuff_length_le⟩

end Sys2Proof.Stuffing
end

section
/-! The FASTECH Frame Codec (43_fastech.md, R183 to R187). The frame is written out byte by byte once; FT_ENCODE has one
whole-state equation for each branch of its test for room in OUT, FT_DECODE one for each kind of result of `ftDecode`. -/

namespace Sys2Proof.Fastech

open Sys2Proof.Machine

/-! ## The frame (R183) -/

/-- The bytes of a frame: HEADER from the low half of the profile, the stuffed core with its CRC low byte first, and TAIL
from the high half of the profile. -/
theorem ftFrame_eq_bytes (p : Word) (slave type : Byte) (payload : List Byte) :
    ftFrame p slave type payload =
      [p.extractLsb' 0 8, p.extractLsb' 8 8] ++
        stuff ([slave, type] ++ payload ++
          [(crc16 ([slave, type] ++ payload)).extractLsb' 0 8, (crc16 ([slave, type] ++ payload)).extractLsb' 8 8]) ++
        [p.extractLsb' 16 8, p.extractLsb' 24 8] := rfl

/-! ## The commands (R184, R187) -/

/-- FT_ENCODE writes the frame and its CRC when the capacity holds the frame. -/
theorem exec_ftEncode_of_le (s : State) (h : (ftFrame s.ftProfile s.opa s.opb s.inBuf).length ≤ s.maxBuf) :
    exec .ftEncode s = .next (((s.setOut (ftFrame s.ftProfile s.opa s.opb s.inBuf)).setResCalcCrc
      (crc16 ([s.opa, s.opb] ++ s.inBuf))).setStatus .ok) :=
  if_neg (Nat.not_lt.2 h)

/-- FT_ENCODE keeps OUT and RES_CALCCRC and reports OVERFLOW when the frame is longer than the capacity. -/
theorem exec_ftEncode_of_lt (s : State) (h : s.maxBuf < (ftFrame s.ftProfile s.opa s.opb s.inBuf).length) :
    exec .ftEncode s = .next (s.setStatus .overflow) :=
  if_pos h

theorem exec_ftDecode (s : State) : exec .ftDecode s = settleFrame (ftDecode s.ftProfile s.inBuf) s := rfl

/-- FT_DECODE writes the five results of a good frame. -/
theorem exec_ftDecode_of_decoded (s : State) (r : FrameFields) (h : ftDecode s.ftProfile s.inBuf = .decoded r) :
    exec .ftDecode s = .next
      (((((s.setResId r.slave r.type).setResRxCrc r.rxCrc).setResCalcCrc r.calcCrc).setOut r.data).setStatus .ok) := by
  rw [exec_ftDecode, settleFrame_next_iff]
  exact .inr ⟨r, h, rfl⟩

/-- FT_DECODE reports the error of a bad frame and writes nothing else. -/
theorem exec_ftDecode_of_error (s : State) (c : StatusCode) (h : ftDecode s.ftProfile s.inBuf = .error c) :
    exec .ftDecode s = .next (s.setStatus c) := by
  rw [exec_ftDecode, settleFrame_next_iff]
  exact .inl ⟨c, h, rfl⟩

/-! ## The obligations -/

/-- Settles O31: one equation for each branch of the test for room, with the frame written out. -/
theorem ftEncodeBuildsTheFrame : Obligations.FtEncodeBuildsTheFrame := by
  refine ⟨by decide, fun s => ?_⟩
  intro core crc frame
  have hframe : frame = ftFrame s.ftProfile s.opa s.opb s.inBuf := (ftFrame_eq_bytes ..).symm
  rw [hframe]
  exact ⟨exec_ftEncode_of_le s, exec_ftEncode_of_lt s⟩

/-- Settles O34: one equation for a good frame, and the equation of an error at each of the two codes. -/
theorem ftDecodeCommand : Obligations.FtDecodeCommand :=
  ⟨by decide, exec_ftDecode_of_decoded, fun s => exec_ftDecode_of_error s .frameFormatError,
    fun s => exec_ftDecode_of_error s .checksumError⟩

end Sys2Proof.Fastech
end

section
/-! The Modbus RTU Frame Codec, master side (44_modbus.md, R210 to R216). The request is written out byte by byte once. Each
command has one whole-state equation for the function codes outside R211, and for the others MB_ENCODE has one and MB_DECODE
one for each kind of result of `mbCheck`. -/

namespace Sys2Proof.Modbus

open Sys2Proof.Machine

/-! ## Function codes and requests (R210, R211, R216) -/

theorem mem_functionCodes_iff (fc : Byte) : fc ∈ Config.functionCodes ↔ fc = 0x03 ∨ fc = 0x04 ∨ fc = 0x06 := by
  simp [Config.functionCodes]

theorem not_mem_functionCodes {fc : Byte} (h3 : fc ≠ 0x03) (h4 : fc ≠ 0x04) (h6 : fc ≠ 0x06) :
    fc ∉ Config.functionCodes := by
  rw [mem_functionCodes_iff, not_or, not_or]
  exact ⟨h3, h4, h6⟩

/-- The bytes under a request's CRC: both 16-bit fields go high byte first. -/
theorem mbRequestCore_eq_bytes (slave fc : Byte) (addr q : U16) :
    mbRequestCore slave fc addr q =
      [slave, fc, addr.extractLsb' 8 8, addr.extractLsb' 0 8, q.extractLsb' 8 8, q.extractLsb' 0 8] := rfl

/-- A request ends with the CRC of its core, low byte first. -/
theorem mbRequest_eq_core_append_bytes (slave fc : Byte) (addr q : U16) :
    mbRequest slave fc addr q = mbRequestCore slave fc addr q ++
      [(crc16 (mbRequestCore slave fc addr q)).extractLsb' 0 8,
        (crc16 (mbRequestCore slave fc addr q)).extractLsb' 8 8] := rfl

/-! ## The commands (R214, R215) -/

/-- MB_ENCODE writes the request and its CRC for a function code of R211. -/
theorem exec_mbEncode_of_mem (s : State) (h : s.opb ∈ Config.functionCodes) :
    exec .mbEncode s = .next (((s.setOut (mbRequest s.opa s.opb s.opw0 s.opw1)).setResCalcCrc
      (crc16 (mbRequestCore s.opa s.opb s.opw0 s.opw1))).setStatus .ok) :=
  if_pos h

/-- MB_ENCODE reports any other function code and writes nothing else. -/
theorem exec_mbEncode_of_not_mem (s : State) (h : s.opb ∉ Config.functionCodes) :
    exec .mbEncode s = .next (s.setStatus .unsupportedFunction) :=
  if_neg h

/-- MB_DECODE ends as the check of IN against the operands does, for a function code of R211. -/
theorem exec_mbDecode_of_mem (s : State) (h : s.opb ∈ Config.functionCodes) :
    exec .mbDecode s = settleFrame (mbCheck s.inBuf s.opa s.opb s.opw1) s :=
  if_pos h

/-- MB_DECODE reports any other function code, whatever IN holds, and writes nothing else. -/
theorem exec_mbDecode_of_not_mem (s : State) (h : s.opb ∉ Config.functionCodes) :
    exec .mbDecode s = .next (s.setStatus .unsupportedFunction) :=
  if_neg h

/-- MB_DECODE writes the five results of a good response. -/
theorem exec_mbDecode_of_decoded (s : State) (r : FrameFields) (h : s.opb ∈ Config.functionCodes)
    (hr : mbCheck s.inBuf s.opa s.opb s.opw1 = .decoded r) :
    exec .mbDecode s = .next
      (((((s.setResId r.slave r.type).setResRxCrc r.rxCrc).setResCalcCrc r.calcCrc).setOut r.data).setStatus .ok) := by
  rw [exec_mbDecode_of_mem s h, settleFrame_next_iff]
  exact .inr ⟨r, hr, rfl⟩

/-- MB_DECODE reports the error of a bad response and writes nothing else. -/
theorem exec_mbDecode_of_error (s : State) (c : StatusCode) (h : s.opb ∈ Config.functionCodes)
    (hc : mbCheck s.inBuf s.opa s.opb s.opw1 = .error c) :
    exec .mbDecode s = .next (s.setStatus c) := by
  rw [exec_mbDecode_of_mem s h, settleFrame_next_iff]
  exact .inl ⟨c, hc, rfl⟩

/-! ## The obligations -/

/-- Settles O39: one equation for each branch of the test of the function code, with the request written out. -/
theorem mbEncodeBuildsTheRequest : Obligations.MbEncodeBuildsTheRequest := by
  refine ⟨by decide, fun s hfc => ?_, fun s h3 h4 h6 => exec_mbEncode_of_not_mem s (not_mem_functionCodes h3 h4 h6)⟩
  have hexec := exec_mbEncode_of_mem s ((mem_functionCodes_iff _).2 hfc)
  rw [mbRequest_eq_core_append_bytes, mbRequestCore_eq_bytes] at hexec
  exact hexec

/-- Settles O40: one equation for the function codes outside R211, and for the others one for each kind of result of the
check. -/
theorem mbDecodeCommand : Obligations.MbDecodeCommand :=
  ⟨by decide, fun s h3 h4 h6 => exec_mbDecode_of_not_mem s (not_mem_functionCodes h3 h4 h6),
    fun s r hfc => exec_mbDecode_of_decoded s r ((mem_functionCodes_iff _).2 hfc),
    fun s c hfc => exec_mbDecode_of_error s c ((mem_functionCodes_iff _).2 hfc)⟩

end Sys2Proof.Modbus
end

section
/-! The system command NOP (45_system.md, R240): the command that only finishes. -/

namespace Sys2Proof.SystemCommands

open Sys2Proof.Machine Sys2Proof.Encoding

/-- The only field NOP sets is STATUS. -/
theorem exec_nop (s : State) : exec .nop s = .next (s.setStatus .ok) :=
  (finish_next_iff s _).2 rfl

/-- Settles O6: NOP's row takes no operand and matches the zero word, and the command ends by `finish` alone. -/
theorem nopOnlySetsStatus : Obligations.NopOnlySetsStatus :=
  ⟨(decode_eq_plain_iff 0 (p := 0) (m := 0xFFFFFFFF) (by simp [rows])).2 BitVec.zero_and, exec_nop⟩

end Sys2Proof.SystemCommands
end

section
/-! How a command fails (60_exceptions.md, R301 and R302). Every command ends in one of the two ways of R11: by `done`, which
sets STATUS to OK, or by `raise` on the very state it was given. So a STATUS that is not OK names a `raise`. -/

namespace Sys2Proof.Failure

open Sys2Proof.Machine Sys2Proof.Checksum Sys2Proof.Buffers Sys2Proof.Stuffing Sys2Proof.Fastech Sys2Proof.Modbus

/-! ## The two ways a command ends (R11) -/

/-- An outcome of a command run in the state `s`: `done` in any state, or `raise` in `s` itself. -/
def DoneOrRaised (s : State) (o : Host.Outcome State Fault Refusal) : Prop :=
  (∃ u, o = finish u) ∨ ∃ c, o = raise c s

/-- Of the two ends, only `raise` leaves STATUS not OK, and it changes nothing but STATUS. -/
theorem DoneOrRaised.eq_setStatus_of_failed {s t : State} (h : DoneOrRaised s (.next t)) (hfail : t.status ≠ 0x00) :
    ∃ c, t = s.setStatus c := by
  obtain ⟨u, hdone⟩ | ⟨c, hraise⟩ := h
  · obtain rfl := (finish_next_iff u t).1 hdone.symm
    exact absurd rfl hfail
  · exact ⟨c, (raise_next_iff c s t).1 hraise.symm⟩

/-- The end of both decodes: a frame's error is raised, and the fields of a good frame are written before `done`. -/
theorem doneOrRaised_settleFrame (r : FrameResult) (s : State) : DoneOrRaised s (settleFrame r s) := by
  cases r with
  | error c => exact .inr ⟨c, rfl⟩
  | decoded f => exact .inl ⟨_, rfl⟩

/-! ## The commands and the write to CMD (R90) -/

/-- Every command makes its checks before its writes: where one fails, the state is still the one it was given. -/
theorem doneOrRaised_exec (i : Instr) (s : State) : DoneOrRaised s (exec i s) := by
  cases i with
  | nop | crcInit | crcUpdate | crcFeed | crcCompute | bufClear | bufXfer | destuff | reset => exact .inl ⟨_, rfl⟩
  | crcCheck =>
    by_cases h : crc16 s.inBuf = s.opw1
    · exact .inl ⟨_, exec_crcCheck_of_eq s h⟩
    · exact .inr ⟨_, exec_crcCheck_of_ne s h⟩
  | bufPush b =>
    by_cases h : s.inBuf.length = s.maxBuf
    · exact .inr ⟨_, exec_bufPush_of_eq b s h⟩
    · exact .inl ⟨_, exec_bufPush_of_ne b s h⟩
  | stuff =>
    obtain h | h := Nat.lt_or_ge s.maxBuf (stuff s.inBuf).length
    · exact .inr ⟨_, exec_stuff_of_lt s h⟩
    · exact .inl ⟨_, exec_stuff_of_le s h⟩
  | ftEncode =>
    obtain h | h := Nat.lt_or_ge s.maxBuf (ftFrame s.ftProfile s.opa s.opb s.inBuf).length
    · exact .inr ⟨_, exec_ftEncode_of_lt s h⟩
    · exact .inl ⟨_, exec_ftEncode_of_le s h⟩
  | ftDecode => exact doneOrRaised_settleFrame _ s
  | mbEncode =>
    by_cases h : s.opb ∈ Config.functionCodes
    · exact .inl ⟨_, exec_mbEncode_of_mem s h⟩
    · exact .inr ⟨_, exec_mbEncode_of_not_mem s h⟩
  | mbDecode =>
    by_cases h : s.opb ∈ Config.functionCodes
    · rw [exec_mbDecode_of_mem s h]
      exact doneOrRaised_settleFrame _ s
    · exact .inr ⟨_, exec_mbDecode_of_not_mem s h⟩

/-- A word written to CMD ends as its command does, and an illegal word raises ILLEGAL_COMMAND. -/
theorem doneOrRaised_writeCmd (w : Word) (s : State) : DoneOrRaised s (writeCmd w s) := by
  unfold writeCmd
  cases decode w with
  | command i => exact doneOrRaised_exec i s
  | illegal why => exact .inr ⟨.illegalCommand, rfl⟩

/-! ## The obligation -/

/-- Settles O45: the write to CMD runs on the state without the access, and its failure is a `raise` there. -/
theorem failedCommandChangesOnlyStatus : Obligations.FailedCommandChangesOnlyStatus := by
  intro w s t rest hbus hstep hfail
  have hend : DoneOrRaised (s.setBus rest) (.next t) := by
    rw [← hstep, step_commandWrite s w rest hbus]
    exact doneOrRaised_writeCmd w (s.setBus rest)
  obtain ⟨c, rfl⟩ := hend.eq_setStatus_of_failed hfail
  rfl

end Sys2Proof.Failure
end

section
/-! The encoder (30_encoding.md section 6, R99) against the decoder. A command's word has its OP, its IMM8 and a zero RSVD in
their fields, and a row of the opcode map reads the command back from them. -/

namespace Sys2Proof.EncodeDecode

open Sys2Proof.Encoding Sys2Proof.Laws

/-- The fields of every command's word, command by command. -/
theorem encode_fields : ∀ i : Instr, EncodingFields.Statement i
  | .nop => EncodingFields.nop
  | .crcInit => EncodingFields.crcInit
  | .crcUpdate b => EncodingFields.crcUpdate b
  | .crcFeed => EncodingFields.crcFeed
  | .crcCompute => EncodingFields.crcCompute
  | .crcCheck => EncodingFields.crcCheck
  | .bufClear => EncodingFields.bufClear
  | .bufPush b => EncodingFields.bufPush b
  | .bufXfer => EncodingFields.bufXfer
  | .stuff => EncodingFields.stuff
  | .destuff => EncodingFields.destuff
  | .ftEncode => EncodingFields.ftEncode
  | .ftDecode => EncodingFields.ftDecode
  | .mbEncode => EncodingFields.mbEncode
  | .mbDecode => EncodingFields.mbDecode
  | .reset => EncodingFields.reset

/-- Every command has a row: the one that builds it from its immediate. -/
theorem exists_row_build (i : Instr) : ∃ r ∈ rows, r.build (immediate i) = i := by
  cases i <;> simp [rows, immediate]

/-- A row that takes IMM8 builds a command with that immediate; any other row builds one with immediate 0 (R93). -/
theorem immediate_build : ∀ r ∈ rows, ∀ b,
    (takesImmediate (rowOp r) ∧ immediate (r.build b) = b) ∨ (¬ takesImmediate (rowOp r) ∧ immediate (r.build b) = 0) := by
  simp [rows, immediate, takesImmediate, rowOp, opField]

/-- A command's word matches the command's row. -/
theorem decode_encode (i : Instr) : decode (encode i) = .command i := by
  obtain ⟨hop, himm, hrsvd⟩ := encode_fields i
  obtain ⟨r, hr, hbuild⟩ := exists_row_build i
  have hrow : opcode i = rowOp r := hbuild ▸ opcode_build r hr (immediate i)
  have hfree : takesImmediate (rowOp r) ∨ immediate i = 0 :=
    (immediate_build r hr (immediate i)).imp And.left fun h => hbuild ▸ h.2
  refine (decode_eq_command_iff _ i).2 ⟨r, hr, (rowMatches_iff_fields _ hr).2 ⟨hop.trans hrow, hrsvd, ?_⟩, ?_⟩
  · rwa [himm]
  · rw [himm, hbuild]

/-- A word that decodes has the three fields of its command's word, so it is that word. -/
theorem encode_of_decode (w : Word) (i : Instr) (h : decode w = .command i) : encode i = w := by
  obtain ⟨r, hr, hmatch, rfl⟩ := (decode_eq_command_iff w i).1 h
  obtain ⟨hop, hrsvd, hfree⟩ := (rowMatches_iff_fields w hr).1 hmatch
  obtain ⟨hop', himm', hrsvd'⟩ := encode_fields (r.build (immField w))
  refine (word_eq_iff_fields _ w).2 ⟨?op, ?imm, hrsvd'.trans hrsvd.symm⟩
  case op => rw [hop', opcode_build r hr, hop]
  case imm =>
    rw [himm']
    obtain ⟨-, himm⟩ | ⟨hfixed, hzero⟩ := immediate_build r hr (immField w)
    · exact himm
    · rw [hzero, hfree.resolve_left hfixed]

/-! ## The obligations -/

/-- Settles O1, one direction by the command's row, the other field by field. -/
theorem decodeAndEncodeAgree : Obligations.DecodeAndEncodeAgree :=
  ⟨fun i _ => decode_encode i, encode_of_decode⟩

/-- Settles O3: each word is the encoding of its command. -/
theorem sampleWordsDecode : Obligations.SampleWordsDecode :=
  ⟨decode_encode .nop, decode_encode (.crcUpdate 0x83), decode_encode (.bufPush 0xAA), decode_encode .destuff,
    decode_encode .ftDecode, decode_encode .mbDecode, decode_encode .reset⟩

end Sys2Proof.EncodeDecode
end

section
/-! The CRC as a code (40_crc.md section 2). One iteration loses no bit: the polynomial's top bit records the bit that was
shifted out. So both the byte loop and the byte step are injective, which gives the residue, the reflected form and the
detection of a changed byte. -/

namespace Sys2Proof.CrcCode

open Sys2Proof.Machine Sys2Proof.Claims Sys2Proof.Checksum

/-! ## One iteration (R110) -/

theorem crcBit_of_lsb_false {c : U16} (h : c.getLsbD 0 = false) : crcBit c = c >>> 1 :=
  if_neg (by rw [h]; exact Bool.false_ne_true)

theorem crcBit_of_lsb_true {c : U16} (h : c.getLsbD 0 = true) : crcBit c = (c >>> 1) ^^^ Config.crcPoly :=
  if_pos h

/-- The top bit after an iteration is the bit that the iteration shifted out. -/
theorem crcBit_top (c : U16) : (crcBit c).getLsbD 15 = c.getLsbD 0 := by
  cases h : c.getLsbD 0 with
  | false => simp [crcBit_of_lsb_false h]
  | true => simp [crcBit_of_lsb_true h, Config.crcPoly]

/-- An iteration can be undone: its top bit says whether the polynomial was added. -/
theorem crcBit_injective : Function.Injective crcBit := by
  intro a b hab
  have hlsb : a.getLsbD 0 = b.getLsbD 0 := by rw [← crcBit_top, ← crcBit_top, hab]
  have hshift : a >>> 1 = b >>> 1 := by
    cases h : b.getLsbD 0 with
    | false => rwa [crcBit_of_lsb_false h, crcBit_of_lsb_false (hlsb.trans h)] at hab
    | true => rwa [crcBit_of_lsb_true h, crcBit_of_lsb_true (hlsb.trans h), BitVec.xor_left_inj] at hab
  ext i hi
  cases i with
  | zero => simpa using hlsb
  | succ i =>
    have := congrArg (·.getLsbD i) hshift
    simpa [Nat.add_comm, BitVec.getLsbD_eq_getElem hi] using this

/-! ## The eight iterations -/

theorem crcBits_injective (n : Nat) : Function.Injective (crcBits n) := by
  rw [show crcBits n = crcBit^[n] from funext (crcBits_eq_iterate n)]
  exact crcBit_injective.iterate n

theorem crcBits_zero (n : Nat) : crcBits n 0 = 0 := by
  induction n with
  | zero => rfl
  | succ n ih => exact ih

/-- The iterations that shift out only zeros are plain shifts. -/
theorem crcBits_eq_shift (n : Nat) (c : U16) (h : ∀ i < n, c.getLsbD i = false) : crcBits n c = c >>> n := by
  induction n generalizing c with
  | zero => rfl
  | succ n ih =>
    have hbit : crcBit c = c >>> 1 := crcBit_of_lsb_false (h 0 n.succ_pos)
    have hlow : ∀ i < n, (c >>> 1).getLsbD i = false := fun i hi => by
      simpa [Nat.add_comm] using h (i + 1) (by omega)
    calc crcBits (n + 1) c = crcBits n (c >>> 1) := congrArg (crcBits n) hbit
      _ = c >>> 1 >>> n := ih _ hlow
      _ = c >>> (n + 1) := by rw [← BitVec.shiftRight_add, Nat.add_comm]

/-- Conversely, where the iterations leave `n` zeros at the top, they shifted out only zeros. -/
theorem low_zero_of_crcBits_top_zero (n : Nat) (hn : n ≤ 16) (c : U16)
    (h : ∀ i < n, (crcBits n c).getLsbD (15 - i) = false) : ∀ i < n, c.getLsbD i = false := by
  induction n generalizing c with
  | zero => intro i hi; omega
  | succ n ih =>
    have hsucc : crcBits (n + 1) c = crcBit (crcBits n c) := by
      rw [crcBits_eq_iterate, crcBits_eq_iterate, Function.iterate_succ_apply']
    rw [hsucc] at h
    have hlsb : (crcBits n c).getLsbD 0 = false := by rw [← crcBit_top]; exact h 0 n.succ_pos
    have htop : ∀ i < n, (crcBits n c).getLsbD (15 - i) = false := fun i hi => by
      have := h (i + 1) (by omega)
      rwa [crcBit_of_lsb_false hlsb, BitVec.getLsbD_ushiftRight, show 1 + (15 - (i + 1)) = 15 - i by omega] at this
    have hlow := ih (by omega) c htop
    intro i hi
    obtain hi | rfl := Nat.lt_succ_iff_lt_or_eq.1 hi
    · exact hlow i hi
    · simpa [crcBits_eq_shift i c hlow] using hlsb

/-! ## One byte and one sequence -/

/-- A step tells the CRC values apart on the same byte. -/
theorem crcStep_left_injective (b : Byte) : Function.Injective (fun c => crcStep c b) := fun _ _ h =>
  (BitVec.xor_left_inj _).1 (crcBits_injective 8 h)

/-- A step tells the bytes apart from the same CRC value. -/
theorem crcStep_right_injective (c : U16) : Function.Injective (crcStep c) := fun a b h => by
  have hwide : a.setWidth 16 = b.setWidth 16 := (BitVec.xor_right_inj _).1 (crcBits_injective 8 h)
  simpa using congrArg (BitVec.setWidth 8) hwide

theorem crcFold_injective (s : List Byte) : Function.Injective (fun c => crcFold c s) := by
  induction s with
  | nil => exact Function.injective_id
  | cons b s ih => exact ih.comp (crcStep_left_injective b)

/-- A sequence with one byte changed has another CRC. -/
theorem crc16_ne_of_byte_ne (pre post : List Byte) {a b : Byte} (h : a ≠ b) :
    crc16 (pre ++ a :: post) ≠ crc16 (pre ++ b :: post) := by
  rw [crc16_append, crc16_append, crcFold_cons, crcFold_cons]
  exact fun heq => h (crcStep_right_injective _ (crcFold_injective post heq))

/-! ## The residue (R113) -/

theorem crcStep_lowByte (c : U16) : crcStep c (lowByte c) = c >>> 8 := by
  have hlow : ∀ i < 8, (c ^^^ (lowByte c).setWidth 16).getLsbD i = false := fun i hi => by
    simp [lowByte, hi, show i < 16 by omega]
  rw [crcStep, crcBits_eq_shift 8 _ hlow]
  ext i hi
  simp [lowByte]

theorem crcFold_le16_self (c : U16) : crcFold c (le16 c) = 0 := by
  have hbyte : c >>> 8 ^^^ (highByte c).setWidth 16 = 0 := by
    ext i hi
    by_cases h8 : i < 8
    · simp [highByte, h8]
    · simp [highByte, h8, BitVec.getLsbD_of_ge c (8 + i) (by omega)]
  rw [le16, crcFold_cons, crcFold_cons, crcFold_nil, crcStep_lowByte, crcStep, hbyte, crcBits_zero]

/-- Only the CRC's own two bytes, low byte first, bring it to 0. -/
theorem crcFold_le16_eq_zero_iff (c v : U16) : crcFold c (le16 v) = 0 ↔ v = c := by
  refine ⟨fun h => ?_, fun h => h ▸ crcFold_le16_self c⟩
  have hfirst : crcStep c (lowByte v) = (highByte v).setWidth 16 :=
    BitVec.xor_eq_zero_iff.1 (crcBits_injective 8 (h.trans (crcBits_zero 8).symm))
  have htop : ∀ i < 8, (crcStep c (lowByte v)).getLsbD (15 - i) = false := fun i hi => by
    rw [hfirst, BitVec.getLsbD_setWidth, BitVec.getLsbD_of_ge _ _ (by omega), Bool.and_false]
  have hlow : lowByte v = lowByte c := by
    ext i hi
    have hbit := low_zero_of_crcBits_top_zero 8 (by omega) (c ^^^ (lowByte v).setWidth 16) htop i hi
    have hi16 : i < 16 := by omega
    rw [BitVec.getLsbD_xor, BitVec.getLsbD_setWidth, decide_eq_true hi16, Bool.true_and] at hbit
    have heq : c.getLsbD i = (lowByte v).getLsbD i := by simpa using hbit
    rw [← BitVec.getLsbD_eq_getElem, ← heq]
    simp [lowByte]
  have hhigh : highByte v = highByte c := by
    rw [← crcFold_le16_self c, le16, le16, hlow] at h
    exact crcStep_right_injective _ h
  rw [← u16le_le16 v, ← u16le_le16 c, hlow, hhigh]

/-- A sequence that ends with a CRC value checks to 0 exactly when the value is that of the bytes before it. -/
theorem crc16_append_le16_eq_zero_iff (s : List Byte) (v : U16) : crc16 (s ++ le16 v) = 0 ↔ v = crc16 s := by
  rw [crc16_append, crcFold_le16_eq_zero_iff]

/-! ## The reflected form (R115) -/

theorem getElem_reverse_eq {n : Nat} (x : BitVec n) (i : Nat) (hi : i < n) :
    x.reverse[i] = x.getLsbD (n - 1 - i) := by
  rw [BitVec.getElem_reverse, BitVec.getMsbD_eq_getLsbD, decide_eq_true hi, Bool.true_and]

theorem reverse_xor {n : Nat} (x y : BitVec n) : (x ^^^ y).reverse = x.reverse ^^^ y.reverse := by
  ext i hi
  simp only [BitVec.getElem_xor, getElem_reverse_eq, BitVec.getLsbD_xor]

/-- Reversal turns a shift to the right into a shift to the left. -/
theorem reverse_shiftRight_one (c : U16) : (c >>> 1).reverse = c.reverse <<< 1 := by
  ext i hi
  rw [getElem_reverse_eq, BitVec.getLsbD_ushiftRight, BitVec.getElem_shiftLeft]
  by_cases h : i < 1
  · rw [BitVec.getLsbD_of_ge c _ (by omega)]
    simp [h]
  · have hpos : 1 + (16 - 1 - i) = 16 - 1 - (i - 1) := by omega
    rw [getElem_reverse_eq, hpos]
    simp [h]

/-- A byte at the low end of a word stands, reversed, at the high end of the reversed word. -/
theorem reverse_setWidth_byte (b : Byte) : (b.setWidth 16).reverse = b.reverse.setWidth 16 <<< 8 := by
  ext i hi
  rw [getElem_reverse_eq, BitVec.getLsbD_setWidth, BitVec.getElem_shiftLeft]
  by_cases h : i < 8
  · rw [BitVec.getLsbD_of_ge b _ (by omega)]
    simp [h]
  · have hpos : 16 - 1 - i = 8 - 1 - (i - 8) := by omega
    have hbit : b.reverse.getLsbD (i - 8) = b.getLsbD (8 - 1 - (i - 8)) := by
      rw [BitVec.getLsbD_eq_getElem (by omega), getElem_reverse_eq]
    rw [BitVec.getElem_setWidth, hbit, decide_eq_true (by omega : 16 - 1 - i < 16), hpos]
    simp [h]

/-- One iteration, read with the bits reversed, is one iteration of the unreflected polynomial. -/
theorem reverse_crcBit (c : U16) : (crcBit c).reverse = crcBitMsb c.reverse := by
  have htop : c.reverse.getMsbD 0 = c.getLsbD 0 := BitVec.getMsbD_reverse
  cases h : c.getLsbD 0 with
  | false =>
    rw [crcBit_of_lsb_false h, reverse_shiftRight_one, crcBitMsb,
      if_neg (by rw [htop, h]; exact Bool.false_ne_true)]
  | true =>
    have hpoly : Config.crcPoly.reverse = 0x8005 := by decide
    rw [crcBit_of_lsb_true h, reverse_xor, reverse_shiftRight_one, hpoly, crcBitMsb, if_pos (htop.trans h)]

theorem reverse_crcBits (n : Nat) (c : U16) : (crcBits n c).reverse = crcBitMsb^[n] c.reverse := by
  induction n generalizing c with
  | zero => rfl
  | succ n ih => rw [Function.iterate_succ_apply, ← reverse_crcBit]; exact ih (crcBit c)

/-- One byte, read with the bits reversed, enters at the other end. -/
theorem reverse_crcStep (c : U16) (b : Byte) : (crcStep c b).reverse = crcStepMsb c.reverse b := by
  rw [crcStep, reverse_crcBits, reverse_xor, reverse_setWidth_byte, crcStepMsb]

theorem reverse_crcFold (c : U16) (s : List Byte) : (crcFold c s).reverse = s.foldl crcStepMsb c.reverse := by
  induction s generalizing c with
  | nil => rfl
  | cons b s ih => rw [crcFold_cons, ih, reverse_crcStep, List.foldl_cons]

/-! ## One inverted bit -/

/-- The mask of the bit that `flipBit` inverts in its byte. -/
def bitMask (k : Nat) : Byte := ((1 <<< (k % 8) : Nat) : Byte)

theorem flipBit_eq_modify (s : List Byte) (k : Nat) : flipBit s k = s.modify (k / 8) (· ^^^ bitMask k) := rfl

theorem bitMask_eq_of_mod {j k : Nat} (h : j % 8 = k % 8) : bitMask j = bitMask k := by rw [bitMask, bitMask, h]

theorem bitMask_ne_zero (k : Nat) : bitMask k ≠ 0 := by
  have hlt : k % 8 < 8 := Nat.mod_lt k (by omega)
  have hbits : ∀ j < 8, ((1 <<< j : Nat) : Byte) ≠ 0 := by decide
  exact hbits (k % 8) hlt

theorem xor_bitMask_ne (b : Byte) (k : Nat) : b ^^^ bitMask k ≠ b := fun h =>
  bitMask_ne_zero k ((BitVec.xor_right_inj b).1 (h.trans BitVec.xor_zero.symm))

/-- Inverting a bit changes one byte and leaves those before and after it. -/
theorem flipBit_eq_append (s : List Byte) (k : Nat) (hk : k < 8 * s.length) :
    ∃ (pre : List Byte) (b : Byte) (post : List Byte), s = pre ++ b :: post ∧
      flipBit s k = pre ++ (b ^^^ bitMask k) :: post := by
  have hlt : k / 8 < s.length := by omega
  exact ⟨s.take (k / 8), s[k / 8], s.drop (k / 8 + 1), by simp, List.modify_eq_take_cons_drop hlt⟩

theorem flipBit_length (s : List Byte) (k : Nat) : (flipBit s k).length = s.length :=
  List.length_modify ..

theorem crc16_flipBit_ne (s : List Byte) (k : Nat) (hk : k < 8 * s.length) : crc16 (flipBit s k) ≠ crc16 s := by
  obtain ⟨pre, b, post, rfl, hflip⟩ := flipBit_eq_append s k hk
  rw [hflip]
  exact crc16_ne_of_byte_ne pre post (xor_bitMask_ne b k)

/-! ## CRC_FEED (R118) -/

theorem exec_crcFeed (s : State) : exec .crcFeed s = .next ((s.setCrc (crcFold s.crc s.inBuf)).setStatus .ok) := rfl

/-! ## The obligations -/

/-- Settles O18: each of the two steps over the CRC's own bytes shifts one of them out and adds nothing. -/
theorem crcResidueIsZero : Obligations.CrcResidueIsZero :=
  fun s => (crc16_append_le16_eq_zero_iff s (crc16 s)).2 rfl

/-- Settles O19, iteration by iteration and byte by byte. -/
theorem crcIsReflected8005 : Obligations.CrcIsReflected8005 := by
  intro s
  have hseed : (Config.crcSeed).reverse = 0xFFFF := by decide
  rw [crc16, reverse_crcFold, hseed]

/-- Settles O20: the changed byte changes the running CRC, and no later byte brings it back. -/
theorem crcDetectsEverySingleBitError : Obligations.CrcDetectsEverySingleBitError :=
  crc16_flipBit_ne

/-- Settles O15: the fold of both sequences is the fold of the second from the first's result. -/
theorem crcFeedContinuesOverIn : Obligations.CrcFeedContinuesOverIn := by
  refine ⟨by decide, exec_crcFeed, fun s a b t ht => ?_⟩
  rw [exec_crcFeed, Host.Outcome.next.injEq] at ht
  subst ht
  rw [exec_crcFeed, List.foldl_append]
  rfl

end Sys2Proof.CrcCode
end

section
/-! What stuffing does to sequences (42_stuffing.md section 2). `destuff` undoes `stuff`, splits at every place that does not
separate two bytes 0xAA, and halves a run; so the outputs of `stuff` are the sequences whose runs are even. The streaming
form's flag stands for one byte 0xAA that the scan has seen and not yet given out. -/

namespace Sys2Proof.StuffingLaws

open Sys2Proof.Machine Sys2Proof.Claims Sys2Proof.Stuffing Sys2Proof.Buffers

/-! ## The inverse (R163) -/

theorem destuff_stuff (x : List Byte) : destuff (stuff x) = x := by
  induction x with
  | nil => rfl
  | cons b x ih =>
    by_cases h : b = 0xAA#8
    · subst h
      rw [stuff_cons_aa, destuff_pair, ih]
    · rw [stuff_cons_ne b x h, destuff_cons_ne b _ h, ih]

/-- One byte before a stuffed sequence is copied: where it is 0xAA, the run that follows it is even. -/
theorem destuff_cons_stuff (b : Byte) (x : List Byte) : destuff (b :: stuff x) = b :: x := by
  by_cases hb : b = 0xAA#8
  · subst hb
    induction x with
    | nil => rfl
    | cons c x ih =>
      by_cases hc : c = 0xAA#8
      · subst hc
        rw [stuff_cons_aa, destuff_pair, ih]
      · rw [stuff_cons_ne c x hc, destuff_cons_of_not_pair _ _ (by simp [hc]), ← stuff_cons_ne c x hc, destuff_stuff]
  · rw [destuff_cons_ne b _ hb, destuff_stuff]

/-! ## The streaming form (R166) -/

/-- With the flag set, the streaming form goes on as the scan does after a byte 0xAA. -/
theorem destuffStream_eq (s : List Byte) :
    destuffStream false s = destuff s ∧ destuffStream true s = destuff (0xAA#8 :: s) := by
  induction s with
  | nil => exact ⟨rfl, rfl⟩
  | cons b s ih =>
    obtain ⟨hclear, hset⟩ := ih
    by_cases h : b = 0xAA#8
    · subst h
      exact ⟨hset, (congrArg (0xAA#8 :: ·) hclear).trans (destuff_pair s).symm⟩
    · rw [destuff_cons_of_not_pair _ (b :: s) (by simp [h]), destuff_cons_ne b s h, ← hclear]
      simp [destuffStream, h, Config.stuffByte]

/-! ## Lengths and runs (R164) -/

/-- The scan gives out at least one byte for every two it takes. -/
theorem length_le_two_mul_destuff_length (t : List Byte) : t.length ≤ 2 * (destuff t).length := by
  fun_induction destuff t with
  | case1 => exact Nat.le_refl 0
  | case2 b => simp
  | case3 a b s hpair ih =>
    simp only [List.length_cons]
    omega
  | case4 a b s hpair ih =>
    simp only [List.length_cons] at ih ⊢
    omega

/-- The scan of two parts is the scan of each, unless a byte 0xAA stands on both sides of the cut. -/
theorem destuff_append (s t : List Byte) (h : s.getLast? ≠ some 0xAA#8 ∨ t.head? ≠ some 0xAA#8) :
    destuff (s ++ t) = destuff s ++ destuff t := by
  fun_induction destuff s with
  | case1 => rfl
  | case2 b =>
    refine destuff_cons_of_not_pair b t ?_
    rintro ⟨rfl, ht⟩
    exact h.elim (absurd rfl) (absurd ht)
  | case3 a b s hpair ih =>
    obtain ⟨rfl, rfl⟩ := hpair
    have hs : s.getLast? ≠ some 0xAA#8 ∨ t.head? ≠ some 0xAA#8 := by
      cases s with
      | nil => exact .inl (by simp)
      | cons c s => simpa using h
    exact (destuff_pair (s ++ t)).trans (congrArg (0xAA#8 :: ·) (ih hs))
  | case4 a b s hpair ih =>
    have hs : (b :: s).getLast? ≠ some 0xAA#8 ∨ t.head? ≠ some 0xAA#8 := by simpa using h
    exact (if_neg hpair).trans (congrArg (a :: ·) (ih hs))

theorem destuff_replicate (k : Nat) :
    destuff (List.replicate k 0xAA#8) = List.replicate ((k + 1) / 2) 0xAA#8 := by
  induction k using Nat.twoStepInduction with
  | zero => rfl
  | one => rfl
  | more k ih _ =>
    rw [List.replicate_succ, List.replicate_succ, destuff_pair, ih, show (k + 2 + 1) / 2 = (k + 1) / 2 + 1 by omega,
      List.replicate_succ]

theorem stuff_replicate (k : Nat) : stuff (List.replicate k 0xAA#8) = List.replicate (2 * k) 0xAA#8 := by
  induction k with
  | zero => rfl
  | succ k ih =>
    rw [List.replicate_succ, stuff_cons_aa, ih, show 2 * (k + 1) = 2 * k + 1 + 1 by omega, List.replicate_succ,
      List.replicate_succ]

/-- A maximal run of `k` bytes 0xAA becomes one of `ceil(k/2)`. -/
theorem destuff_run (pre post : List Byte) (k : Nat) (h : isRun pre post) :
    destuff (pre ++ List.replicate k 0xAA#8 ++ post) =
      destuff pre ++ List.replicate ((k + 1) / 2) 0xAA#8 ++ destuff post := by
  obtain ⟨hpre, hpost⟩ := h
  rw [destuff_append _ _ (.inr hpost), destuff_append _ _ (.inl hpre), destuff_replicate]

/-! ## The outputs of `stuff` (R165) -/

/-- Stuffing again gives back each pair and doubles each lone byte 0xAA. -/
theorem length_le_stuff_destuff_length (t : List Byte) : t.length ≤ (stuff (destuff t)).length := by
  fun_induction destuff t with
  | case1 => exact Nat.le_refl 0
  | case2 b => simp [stuff_length]
  | case3 a b s hpair ih =>
    simpa [Config.stuffByte] using ih
  | case4 a b s hpair ih =>
    rw [stuff_cons, List.length_append, stuff_length [a]]
    simp only [List.length_cons] at ih ⊢
    omega

/-- In an output of `stuff`, cut at a maximal run, the run is no longer than the doubled half of it. -/
theorem run_even_of_stuff (x pre post : List Byte) (k : Nat) (h : isRun pre post)
    (hx : stuff x = pre ++ List.replicate k 0xAA#8 ++ post) : k % 2 = 0 := by
  have hsplit : x = destuff pre ++ List.replicate ((k + 1) / 2) 0xAA#8 ++ destuff post := by
    rw [← destuff_run pre post k h, ← hx, destuff_stuff]
  have hlen := congrArg List.length hx
  rw [hsplit, stuff_append, stuff_append, stuff_replicate] at hlen
  simp only [List.length_append, List.length_replicate] at hlen
  have hpre := length_le_stuff_destuff_length pre
  have hpost := length_le_stuff_destuff_length post
  omega

/-- Every maximal run of bytes 0xAA is even. -/
def EvenRuns (t : List Byte) : Prop :=
  ∀ (pre post : List Byte) (k : Nat), isRun pre post → t = pre ++ List.replicate k 0xAA#8 ++ post → k % 2 = 0

theorem evenRuns_of_cons {b : Byte} {t : List Byte} (hb : b ≠ 0xAA#8) (h : EvenRuns (b :: t)) : EvenRuns t := by
  rintro pre post k ⟨hpre, hpost⟩ rfl
  refine h (b :: pre) post k ⟨?_, hpost⟩ rfl
  cases pre with
  | nil => simpa using hb
  | cons c pre => simpa using hpre

theorem evenRuns_of_pair {t : List Byte} (h : EvenRuns (0xAA#8 :: 0xAA#8 :: t)) : EvenRuns t := by
  rintro pre post k ⟨hpre, hpost⟩ rfl
  cases pre with
  | nil =>
    have := h [] post (k + 2) ⟨by simp, hpost⟩ (by simp [List.replicate_succ])
    omega
  | cons c pre => exact h (0xAA#8 :: 0xAA#8 :: c :: pre) post k ⟨by simpa using hpre, hpost⟩ (by simp)

/-- A byte that the scan copies and that even runs follow is not 0xAA, for it would be a run of one. -/
theorem ne_of_evenRuns_of_not_pair {b : Byte} {t : List Byte} (h : EvenRuns (b :: t))
    (hpair : ¬ (b = 0xAA#8 ∧ t.head? = some 0xAA#8)) : b ≠ 0xAA#8 := by
  rintro rfl
  have := h [] t 1 ⟨by simp, fun ht => hpair ⟨rfl, ht⟩⟩ rfl
  omega

theorem stuff_destuff_of_evenRuns (t : List Byte) (h : EvenRuns t) : stuff (destuff t) = t := by
  fun_induction destuff t with
  | case1 => rfl
  | case2 b => exact stuff_cons_ne b [] (ne_of_evenRuns_of_not_pair h (by simp))
  | case3 a b s hpair ih =>
    obtain ⟨rfl, rfl⟩ := hpair
    exact (stuff_cons_aa _).trans (congrArg (0xAA#8 :: 0xAA#8 :: ·) (ih (evenRuns_of_pair h)))
  | case4 a b s hpair ih =>
    have ha : a ≠ 0xAA#8 := ne_of_evenRuns_of_not_pair h fun hab => hpair ⟨hab.1, Option.some_inj.1 hab.2⟩
    rw [stuff_cons_ne a _ ha, ih (evenRuns_of_cons ha h)]

theorem exists_stuff_eq_iff_stuff_destuff (t : List Byte) : (∃ s, stuff s = t) ↔ stuff (destuff t) = t :=
  ⟨fun ⟨s, hs⟩ => by rw [← hs, destuff_stuff], fun h => ⟨_, h⟩⟩

theorem exists_stuff_eq_iff_evenRuns (t : List Byte) : (∃ s, stuff s = t) ↔ EvenRuns t :=
  ⟨fun ⟨s, hs⟩ pre post k hrun ht => run_even_of_stuff s pre post k hrun (hs.trans ht),
    fun h => ⟨_, stuff_destuff_of_evenRuns t h⟩⟩

/-! ## One changed byte -/

/-- A stuffed sequence with one byte changed destuffs to the sequence with one byte changed, or to one byte more: a change of
one byte of a pair 0xAA leaves the other one alone. -/
theorem destuff_modify_stuff (f : Byte → Byte) (hf : f 0xAA#8 ≠ 0xAA#8) (x : List Byte) (j : Nat)
    (hj : j < (stuff x).length) :
    (∃ i < x.length, destuff ((stuff x).modify j f) = x.modify i f) ∨
      (destuff ((stuff x).modify j f)).length = x.length + 1 := by
  induction x generalizing j with
  | nil => simp at hj
  | cons b x ih =>
    by_cases hb : b = 0xAA#8
    · subst hb
      rw [stuff_cons_aa] at hj ⊢
      match j with
      | 0 =>
        right
        rw [List.modify_zero_cons, destuff_cons_ne _ _ hf, destuff_cons_stuff]
        rfl
      | 1 =>
        right
        rw [List.modify_succ_cons, List.modify_zero_cons, destuff_cons_of_not_pair _ _ (by simp [hf]),
          destuff_cons_ne _ _ hf, destuff_stuff]
        rfl
      | j + 2 =>
        rw [List.modify_succ_cons, List.modify_succ_cons, destuff_pair]
        refine (ih j (by simpa using hj)).imp ?_ (congrArg (· + 1))
        rintro ⟨i, hi, heq⟩
        exact ⟨i + 1, Nat.succ_lt_succ hi, congrArg (0xAA#8 :: ·) heq⟩
    · rw [stuff_cons_ne b x hb] at hj ⊢
      match j with
      | 0 => exact .inl ⟨0, Nat.succ_pos _, by rw [List.modify_zero_cons, destuff_cons_stuff, List.modify_zero_cons]⟩
      | j + 1 =>
        rw [List.modify_succ_cons, destuff_cons_ne b _ hb]
        refine (ih j (by simpa using hj)).imp ?_ (congrArg (· + 1))
        rintro ⟨i, hi, heq⟩
        exact ⟨i + 1, Nat.succ_lt_succ hi, congrArg (b :: ·) heq⟩

/-! ## The obligations -/

/-- Settles O27: the three commands' equations, with the inverse at the last of them. -/
theorem destuffUndoesStuff : Obligations.DestuffUndoesStuff := by
  refine ⟨destuff_stuff, fun s hfit => ⟨_, _, exec_stuff_of_le s hfit, exec_bufXfer _, ?_⟩⟩
  rw [exec_destuff]
  simp only [State.setStatus_inBuf, State.setOut_inBuf, State.setIn_inBuf, State.setStatus_outBuf,
    State.setOut_outBuf, destuff_stuff]
  rfl

/-- Settles O28. -/
theorem stuffingLengthsAndRuns : Obligations.StuffingLengthsAndRuns := by
  refine ⟨stuff_length, fun t => ⟨?_, destuff_length_le t⟩, destuff_run⟩
  have := length_le_two_mul_destuff_length t
  omega

/-- Settles O29. -/
theorem stuffOutputsAreEvenRuns : Obligations.StuffOutputsAreEvenRuns :=
  fun t => ⟨exists_stuff_eq_iff_evenRuns t, exists_stuff_eq_iff_stuff_destuff t⟩

/-- Settles O30: the flag is clear at the start. -/
theorem streamingDestuffIsDestuff : Obligations.StreamingDestuffIsDestuff :=
  fun s => (destuffStream_eq s).1

end Sys2Proof.StuffingLaws
end

section
/-! Bytes of a frame (00_scope.md R9, R10). What the slices and indices of the decodes give on a sequence that ends with a
16-bit value, low byte first, and how every sequence long enough is cut into such parts. -/

namespace Sys2Proof.FrameBytes

open Sys2Proof.Machine

theorem le16_u16le (a b : Byte) : le16 (u16le a b) = [a, b] := by
  have hlow : lowByte (u16le a b) = a := by
    ext i hi
    simp [lowByte, u16le, hi, show i < 16 by omega]
  have hhigh : highByte (u16le a b) = b := by
    ext i hi
    simp [highByte, u16le, hi, show 8 + i < 16 by omega]
  rw [le16, hlow, hhigh]

/-- Any two last bytes are a 16-bit value, low byte first. -/
theorem exists_eq_append_le16 (f : List Byte) (h : 2 ≤ f.length) : ∃ core v, f = core ++ le16 v := by
  obtain ⟨a, b, hlast⟩ : ∃ a b, f.drop (f.length - 2) = [a, b] :=
    List.length_eq_two.1 (by rw [List.length_drop]; omega)
  exact ⟨f.take (f.length - 2), u16le a b, by rw [le16_u16le, ← hlast, List.take_append_drop]⟩

theorem append_le16_length_sub_two (core : List Byte) (v : U16) : (core ++ le16 v).length - 2 = core.length := by
  simp

theorem slice_append_le16 (core : List Byte) (v : U16) (i : Nat) :
    slice (core ++ le16 v) i core.length = core.drop i := by
  rw [slice, ← List.length_drop, List.drop_append]
  exact List.take_left' rfl

/-- The two last bytes of a sequence, read low byte first. -/
theorem u16le_append_le16 (core : List Byte) (v : U16) :
    u16le (byteAt (core ++ le16 v) core.length) (byteAt (core ++ le16 v) (core.length + 1)) = v := by
  have hlow : byteAt (core ++ le16 v) core.length = lowByte v := by simp [byteAt, le16]
  have hhigh : byteAt (core ++ le16 v) (core.length + 1) = highByte v := by simp [byteAt, le16]
  rw [hlow, hhigh, u16le_le16]

/-- A change of a byte in the first of two parts leaves the second. -/
theorem modify_append_of_lt (f : Byte → Byte) (s t : List Byte) (i : Nat) (hi : i < s.length) :
    (s ++ t).modify i f = s.modify i f ++ t := by
  induction s generalizing i with
  | nil => simp at hi
  | cons b s ih =>
    cases i with
    | zero => rfl
    | succ i => exact congrArg (b :: ·) (ih i (Nat.lt_of_succ_lt_succ hi))

theorem eq_append_slices (f : List Byte) (h : 4 ≤ f.length) :
    f = slice f 0 2 ++ slice f 2 (f.length - 2) ++ slice f (f.length - 2) f.length := by
  have htail : slice f (f.length - 2) f.length = f.drop (f.length - 2) := by
    rw [slice, List.take_of_length_le (by rw [List.length_drop])]
  have hmid : f.drop 2 = slice f 2 (f.length - 2) ++ f.drop (f.length - 2) := by
    rw [slice]
    conv_lhs => rw [← List.take_append_drop (f.length - 2 - 2) (f.drop 2), List.drop_drop,
      show 2 + (f.length - 2 - 2) = f.length - 2 by omega]
  rw [htail, List.append_assoc, ← hmid]
  exact (List.take_append_drop 2 f).symm

end Sys2Proof.FrameBytes
end

section
/-! The outcomes of `ftDecode` (43_fastech.md section 2, R185 and R186) and what they give on an encoded frame (section 4). A
sequence is a frame of a profile or it is not; a frame is decided by its destuffed middle, which is a core and a CRC. -/

namespace Sys2Proof.FastechDecode

open Sys2Proof.Machine Sys2Proof.Claims Sys2Proof.Stuffing Sys2Proof.StuffingLaws Sys2Proof.FrameBytes Sys2Proof.CrcCode
  Sys2Proof.Fastech Sys2Proof.Buffers

/-! ## The frame and its body (R183) -/

theorem ftFrame_length (p : Word) (slave type : Byte) (payload : List Byte) :
    (ftFrame p slave type payload).length =
      8 + payload.length + (ftCore slave type payload ++ le16 (crc16 (ftCore slave type payload))).count 0xAA := by
  simp only [ftFrame, ftBody, List.length_append, stuff_length, header_length, tail_length, le16_length, ftCore,
    List.length_cons, List.length_nil]
  omega

theorem destuff_ftBody (slave type : Byte) (payload : List Byte) :
    destuff (ftBody slave type payload) =
      ftCore slave type payload ++ le16 (crc16 (ftCore slave type payload)) := destuff_stuff _

/-! ## Which sequences are frames (R185) -/

/-- The header and the tail of a profile stand around the middle. -/
def IsFrame (p : Word) (f : List Byte) : Prop := ∃ mid, f = header p ++ mid ++ tail p

theorem slices_of_frame (p : Word) (mid : List Byte) :
    slice (header p ++ mid ++ tail p) 0 2 = header p ∧
    slice (header p ++ mid ++ tail p) 2 (mid.length + 2) = mid ∧
    slice (header p ++ mid ++ tail p) (mid.length + 2) (mid.length + 4) = tail p := by
  refine ⟨?_, ?_, ?_⟩ <;> simp [slice, header, tail]

theorem frame_length (p : Word) (mid : List Byte) : (header p ++ mid ++ tail p).length = mid.length + 4 := by
  simp only [List.length_append, header_length, tail_length]
  omega

/-- The three conditions that `ft_decode` tests. -/
theorem isFrame_iff_slices (p : Word) (f : List Byte) :
    IsFrame p f ↔ 4 ≤ f.length ∧ slice f 0 2 = header p ∧ slice f (f.length - 2) f.length = tail p := by
  constructor
  · rintro ⟨mid, rfl⟩
    obtain ⟨hheader, -, htail⟩ := slices_of_frame p mid
    rw [frame_length]
    exact ⟨by omega, hheader, htail⟩
  · rintro ⟨hlen, hheader, htail⟩
    exact ⟨slice f 2 (f.length - 2), by rw [← hheader, ← htail]; exact eq_append_slices f hlen⟩

theorem ftDecode_of_not_isFrame (p : Word) (f : List Byte) (h : ¬ IsFrame p f) :
    ftDecode p f = .error .frameFormatError := by
  rw [isFrame_iff_slices] at h
  rw [ftDecode]
  by_cases hlen : f.length < 4
  · exact if_pos hlen
  · exact (if_neg hlen).trans (if_pos (not_and_or.1 fun hsides => h ⟨Nat.not_lt.1 hlen, hsides⟩))

/-- A frame is decided by its destuffed middle. -/
theorem ftDecode_frame (p : Word) (mid : List Byte) :
    ftDecode p (header p ++ mid ++ tail p) =
      if (destuff mid).length < 4 then .error .checksumError else ftDecodeBody (destuff mid) := by
  obtain ⟨hheader, hmid, htail⟩ := slices_of_frame p mid
  rw [ftDecode, frame_length, show mid.length + 4 - 2 = mid.length + 2 by omega, hheader, hmid, htail,
    if_neg (by omega), if_neg (by simp)]

/-! ## The body's CRC (R186) -/

theorem ftDecodeBody_core_append (slave type : Byte) (payload : List Byte) (v : U16) :
    ftDecodeBody (ftCore slave type payload ++ le16 v) =
      if v = crc16 (ftCore slave type payload) then .decoded ⟨slave, type, payload, v, v⟩
      else .error .checksumError := by
  have hbytes := u16le_append_le16 (ftCore slave type payload) v
  have hcore := slice_append_le16 (ftCore slave type payload) v
  have hlen : (ftCore slave type payload ++ le16 v).length - 1 = (ftCore slave type payload).length + 1 := by
    simp
  rw [ftDecodeBody, append_le16_length_sub_two, hlen, hbytes, hcore, hcore, List.drop_zero, ite_not]
  by_cases hv : v = crc16 (ftCore slave type payload)
  · rw [if_pos hv, if_pos hv, ← hv]
    rfl
  · rw [if_neg hv, if_neg hv]

/-- A body of at least 4 bytes is a slave, a type, a payload and a CRC. -/
theorem exists_eq_ftCore_append (body : List Byte) (h : 4 ≤ body.length) :
    ∃ slave type payload v, body = ftCore slave type payload ++ le16 v := by
  obtain ⟨core, v, rfl⟩ := exists_eq_append_le16 body (by omega)
  match core, h with
  | slave :: type :: payload, _ => exact ⟨slave, type, payload, v, rfl⟩

/-! ## The outcomes (R185, R186) -/

/-- A frame of at least 4 body bytes decodes exactly when its CRC is right. -/
theorem ftDecode_frame_core (p : Word) (mid : List Byte) (slave type : Byte) (payload : List Byte) (v : U16)
    (h : destuff mid = ftCore slave type payload ++ le16 v) :
    ftDecode p (header p ++ mid ++ tail p) =
      if v = crc16 (ftCore slave type payload) then .decoded ⟨slave, type, payload, v, v⟩
      else .error .checksumError := by
  rw [ftDecode_frame, h, if_neg (by simp [ftCore]), ftDecodeBody_core_append]

/-- What `ft_decode` can answer: not a frame, a wrong body, or the fields of a frame with the right CRC. -/
theorem ftDecode_cases (p : Word) (f : List Byte) :
    (¬ IsFrame p f ∧ ftDecode p f = .error .frameFormatError) ∨
    (IsFrame p f ∧ ftDecode p f = .error .checksumError) ∨
    (∃ mid slave type payload, f = header p ++ mid ++ tail p ∧
      destuff mid = ftCore slave type payload ++ le16 (crc16 (ftCore slave type payload)) ∧
      ftDecode p f = .decoded ⟨slave, type, payload, crc16 (ftCore slave type payload),
        crc16 (ftCore slave type payload)⟩) := by
  by_cases hframe : IsFrame p f
  · obtain ⟨mid, rfl⟩ := hframe
    by_cases hlen : (destuff mid).length < 4
    · exact .inr (.inl ⟨⟨mid, rfl⟩, by rw [ftDecode_frame, if_pos hlen]⟩)
    · obtain ⟨slave, type, payload, v, hbody⟩ := exists_eq_ftCore_append (destuff mid) (by omega)
      have hdecode := ftDecode_frame_core p mid slave type payload v hbody
      by_cases hv : v = crc16 (ftCore slave type payload)
      · subst hv
        exact .inr (.inr ⟨mid, slave, type, payload, rfl, hbody, hdecode.trans (if_pos rfl)⟩)
      · exact .inr (.inl ⟨⟨mid, rfl⟩, hdecode.trans (if_neg hv)⟩)
  · exact .inl ⟨hframe, ftDecode_of_not_isFrame p f hframe⟩

theorem ftDecode_eq_frameFormatError_iff (p : Word) (f : List Byte) :
    ftDecode p f = .error .frameFormatError ↔ ¬ IsFrame p f := by
  refine ⟨fun h => ?_, ftDecode_of_not_isFrame p f⟩
  obtain ⟨hframe, -⟩ | ⟨-, heq⟩ | ⟨mid, slave, type, payload, -, -, heq⟩ := ftDecode_cases p f
  · exact hframe
  · simp [heq] at h
  · simp [heq] at h

theorem ftDecode_error_code {p : Word} {f : List Byte} {c : StatusCode} (h : ftDecode p f = .error c) :
    c = .frameFormatError ∨ c = .checksumError := by
  obtain ⟨-, heq⟩ | ⟨-, heq⟩ | ⟨mid, slave, type, payload, -, -, heq⟩ := ftDecode_cases p f
  · exact .inl (FrameResult.error.inj (h.symm.trans heq))
  · exact .inr (FrameResult.error.inj (h.symm.trans heq))
  · simp [heq] at h

/-- The frames that decode, and to what. -/
theorem ftDecode_eq_decoded_iff (p : Word) (f : List Byte) (r : FrameFields) :
    ftDecode p f = .decoded r ↔ ∃ mid, f = header p ++ mid ++ tail p ∧
      destuff mid = ftCore r.slave r.type r.data ++ le16 r.rxCrc ∧
      r.rxCrc = crc16 (ftCore r.slave r.type r.data) ∧ r.calcCrc = r.rxCrc := by
  constructor
  · intro h
    obtain ⟨-, heq⟩ | ⟨-, heq⟩ | ⟨mid, slave, type, payload, hf, hmid, heq⟩ := ftDecode_cases p f
    · simp [heq] at h
    · simp [heq] at h
    · obtain rfl := FrameResult.decoded.inj (heq.symm.trans h)
      exact ⟨mid, hf, hmid, rfl, rfl⟩
  · rintro ⟨mid, rfl, hmid, hcrc, hcalc⟩
    obtain ⟨slave, type, data, rx, computed⟩ := r
    obtain rfl : computed = rx := hcalc
    rw [ftDecode_frame_core p mid _ _ _ _ hmid, if_pos hcrc]

/-- The payload of a decoded frame is shorter than the frame. -/
theorem ftDecode_data_length_le {p : Word} {f : List Byte} {r : FrameFields} (h : ftDecode p f = .decoded r) :
    r.data.length ≤ f.length := by
  obtain ⟨mid, rfl, hmid, -, -⟩ := (ftDecode_eq_decoded_iff p f r).1 h
  have hlen := destuff_length_le mid
  rw [hmid] at hlen
  simp only [ftCore, List.length_append, List.length_cons, List.length_nil, le16_length] at hlen
  rw [frame_length]
  omega

/-! ## Encoded frames under a profile (43_fastech.md section 4) -/

/-- An encoded frame under a profile with the same header and tail decodes to what was encoded. -/
theorem ftDecode_ftFrame {p q : Word} (hheader : header p = header q) (htail : tail p = tail q) (slave type : Byte)
    (payload : List Byte) :
    ftDecode q (ftFrame p slave type payload) = .decoded ⟨slave, type, payload, crc16 (ftCore slave type payload),
      crc16 (ftCore slave type payload)⟩ := by
  rw [ftFrame, hheader, htail, ftDecode_frame_core q _ _ _ _ _ (destuff_ftBody slave type payload), if_pos rfl]

/-- A frame of two profiles shows that they agree. -/
theorem isFrame_ftFrame_iff (p q : Word) (slave type : Byte) (payload : List Byte) :
    IsFrame q (ftFrame p slave type payload) ↔ header p = header q ∧ tail p = tail q := by
  rw [isFrame_iff_slices, ftFrame, frame_length, show ∀ n, n + 4 - 2 = n + 2 by omega]
  obtain ⟨hheader, -, htail⟩ := slices_of_frame p (ftBody slave type payload)
  rw [hheader, htail]
  exact and_iff_right (by omega)

/-! ## One inverted bit (43_fastech.md section 4) -/

/-- Inverting a bit between header and tail inverts a bit of the body. -/
theorem flipBit_frame (p : Word) (mid : List Byte) (k : Nat) (hk : k < 8 * mid.length) :
    flipBit (header p ++ mid ++ tail p) (k + 16) = header p ++ flipBit mid k ++ tail p := by
  have hmask : bitMask (k + 16) = bitMask k := bitMask_eq_of_mod (by omega)
  have hbyte : (k + 16) / 8 = k / 8 + 2 := by omega
  rw [flipBit_eq_modify, flipBit_eq_modify, hmask, hbyte, List.append_assoc, List.append_assoc,
    ← modify_append_of_lt _ mid (tail p) (k / 8) (by omega)]
  rfl

/-- A bit inverted in a stuffed sequence shows, after destuffing, as one inverted bit or as one byte more. -/
theorem destuff_flipBit_stuff (x : List Byte) (k : Nat) (hk : k < 8 * (stuff x).length) :
    (∃ j < 8 * x.length, destuff (flipBit (stuff x) k) = flipBit x j) ∨
      (destuff (flipBit (stuff x) k)).length = x.length + 1 := by
  refine (destuff_modify_stuff (· ^^^ bitMask k) (xor_bitMask_ne _ k) x (k / 8) (by omega)).imp_left ?_
  rintro ⟨i, hi, heq⟩
  refine ⟨8 * i + k % 8, by omega, ?_⟩
  have hbyte : (8 * i + k % 8) / 8 = i := by omega
  have hmask : bitMask (8 * i + k % 8) = bitMask k := bitMask_eq_of_mod (by omega)
  rw [flipBit_eq_modify, flipBit_eq_modify, heq, hbyte, hmask]

/-- A frame whose destuffed body is a good body with one bit inverted fails: a body's own CRC brings the whole of it to 0,
and the inverted bit does not. -/
theorem ftDecode_checksumError_of_flipBit (p : Word) (mid : List Byte) (slave type : Byte) (payload : List Byte) (j : Nat)
    (hj : j < 8 * (ftCore slave type payload ++ le16 (crc16 (ftCore slave type payload))).length)
    (hmid : destuff mid = flipBit (ftCore slave type payload ++ le16 (crc16 (ftCore slave type payload))) j) :
    ftDecode p (header p ++ mid ++ tail p) = .error .checksumError := by
  have hne := crc16_flipBit_ne _ j hj
  rw [(crc16_append_le16_eq_zero_iff _ _).2 rfl, ← hmid] at hne
  have hlen : 4 ≤ (destuff mid).length := by
    rw [hmid, flipBit_length]
    simp [ftCore]
  obtain ⟨slave', type', payload', v, hbody⟩ := exists_eq_ftCore_append _ hlen
  rw [hbody, Ne, crc16_append_le16_eq_zero_iff] at hne
  rw [ftDecode_frame_core p mid _ _ _ _ hbody, if_neg hne]

/-! ## The obligations -/

/-- Settles O32: the stuffed region is the core and two CRC bytes. -/
theorem ftFrameLength : Obligations.FtFrameLength := ftFrame_length

/-- Settles O33, from the three kinds of answer. -/
theorem ftDecodeOutcomes : Obligations.FtDecodeOutcomes := by
  intro p f
  refine ⟨ftDecode_eq_frameFormatError_iff p f, fun slave type payload crc => ?_, fun r h => ?_, fun c => ftDecode_error_code⟩
  · rw [ftDecode_eq_decoded_iff]
    simp only [ftCore, and_true]
  · obtain ⟨mid, -, -, -, hcalc⟩ := (ftDecode_eq_decoded_iff p f r).1 h
    exact hcalc.symm

/-- Settles O35: the frame that FT_ENCODE leaves in OUT is in IN when FT_DECODE runs, under the same profile. -/
theorem fastechFrameRoundTrip : Obligations.FastechFrameRoundTrip := by
  intro s hfit
  exact ⟨_, _, _, exec_ftEncode_of_le s hfit, exec_bufXfer _,
    exec_ftDecode_of_decoded _ _ (ftDecode_ftFrame rfl rfl s.opa s.opb s.inBuf), rfl, rfl, rfl, rfl, rfl, rfl⟩

/-- Settles O36: the header and the tail stay, and so does the length, or it grows by one. -/
theorem flippedBodyBitKeepsTheFrame : Obligations.FlippedBodyBitKeepsTheFrame := by
  intro p slave type payload k hlow hhigh
  obtain ⟨k, rfl⟩ := Nat.exists_eq_add_of_le' hlow
  rw [ftFrame, frame_length] at hhigh
  have hk : k < 8 * (ftBody slave type payload).length := by omega
  rw [Nat.add_sub_cancel, ftFrame, flipBit_frame p _ k hk, destuff_ftBody]
  refine ⟨fun h => (ftDecode_eq_frameFormatError_iff p _).1 h ⟨_, rfl⟩, ?_⟩
  obtain ⟨j, -, heq⟩ | heq := destuff_flipBit_stuff _ k hk
  · rw [ftBody, heq, flipBit_length]
    omega
  · rw [ftBody, heq]
    omega

/-- Settles O37: a body of the same length has one bit inverted, in the core or in its CRC. -/
theorem flippedBodyBitIsDetected : Obligations.FlippedBodyBitIsDetected := by
  intro p slave type payload k hk hlen
  obtain ⟨j, hj, heq⟩ | heq := destuff_flipBit_stuff _ k hk
  · exact ftDecode_checksumError_of_flipBit p _ slave type payload j hj heq
  · rw [destuff_ftBody, ftBody, heq] at hlen
    omega

/-- Settles O38. -/
theorem profilesMustAgree : Obligations.ProfilesMustAgree := by
  intro p q slave type payload
  refine ⟨fun hne => ?_, fun ⟨hheader, htail⟩ => ftDecode_ftFrame hheader htail slave type payload⟩
  exact ftDecode_of_not_isFrame q _ (mt (isFrame_ftFrame_iff p q slave type payload).1 hne)

end Sys2Proof.FastechDecode
end

section
/-! How a decode ends (43_fastech.md R187, 44_modbus.md R215): the code that a frame's result reports, and what it writes. -/

namespace Sys2Proof.FrameResults

open Sys2Proof.Machine

/-- The code that a decode with this result leaves in STATUS. -/
def resultCode : FrameResult → StatusCode
  | .error c => c
  | .decoded _ => .ok

/-- What a decode with this result writes beside STATUS: nothing, or the five results. -/
def writeResult : FrameResult → State → State
  | .error _, s => s
  | .decoded f, s => (((s.setResId f.slave f.type).setResRxCrc f.rxCrc).setResCalcCrc f.calcCrc).setOut f.data

@[simp] theorem resultCode_error (c : StatusCode) : resultCode (.error c) = c := rfl

@[simp] theorem resultCode_decoded (f : FrameFields) : resultCode (.decoded f) = .ok := rfl

theorem settleFrame_eq (r : FrameResult) (s : State) :
    settleFrame r s = .next ((writeResult r s).setStatus (resultCode r)) := by
  cases r <;> rfl

end Sys2Proof.FrameResults
end

section
/-! The outcomes of `mbCheck` (44_modbus.md section 2, R216) and what they give for MB_DECODE. A response of at least 5 bytes
is a slave, a function code, a third byte, data and a CRC, so each check is a comparison of one of these parts. -/

namespace Sys2Proof.ModbusDecode

open Sys2Proof.Machine Sys2Proof.Claims Sys2Proof.FrameBytes Sys2Proof.FrameResults Sys2Proof.CrcCode Sys2Proof.Modbus
  Sys2Proof.Buffers

/-! ## The parts of a response (R212, R213) -/

/-- Of the function codes of R211, all but the write's are a read's. -/
theorem read_of_ne_write {fc : Byte} (h : fc ∈ Config.functionCodes) (h6 : fc ≠ 0x06) : fc = 0x03 ∨ fc = 0x04 := by
  rw [mem_functionCodes_iff, ← or_assoc] at h
  exact h.resolve_right h6

/-- The bytes under a response's CRC: slave, function code, a third byte and the rest. -/
def responseCore (slave fc third : Byte) (rest : List Byte) : List Byte := [slave, fc, third] ++ rest

theorem exists_eq_responseCore_append (f : List Byte) (h : 5 ≤ f.length) :
    ∃ slave fc third rest v, f = responseCore slave fc third rest ++ le16 v := by
  obtain ⟨core, v, rfl⟩ := exists_eq_append_le16 f (by omega)
  match core, h with
  | slave :: fc :: third :: rest, _ => exact ⟨slave, fc, third, rest, v, rfl⟩

theorem responseCore_append_length (a b n : Byte) (rest : List Byte) (v : U16) :
    (responseCore a b n rest ++ le16 v).length = rest.length + 5 := by
  simp [responseCore]

theorem le16_injective : Function.Injective le16 := by
  intro v w h
  obtain ⟨hlow, hhigh⟩ : lowByte v = lowByte w ∧ highByte v = highByte w := by simpa [le16] using h
  rw [← u16le_le16 v, ← u16le_le16 w, hlow, hhigh]

/-! ## The checks (R216) -/

theorem mbCheck_of_short (f : List Byte) (slave fc : Byte) (q : U16) (h : f.length < 5) :
    mbCheck f slave fc q = .error .frameFormatError :=
  if_pos h

theorem mbCheck_of_slave_ne (f : List Byte) (slave fc : Byte) (q : U16) (hlen : 5 ≤ f.length)
    (h : f.getD 0 0 ≠ slave) : mbCheck f slave fc q = .error .responseMismatch :=
  (if_neg (Nat.not_lt.2 hlen)).trans (if_pos h)

/-- A wrong function code fails as a wrong slave does, so it does not matter that the slave is checked first. -/
theorem mbCheck_of_function_ne (f : List Byte) (slave fc : Byte) (q : U16) (hlen : 5 ≤ f.length)
    (h : f.getD 1 0 ≠ fc) : mbCheck f slave fc q = .error .responseMismatch := by
  by_cases hslave : f.getD 0 0 = slave
  · exact (if_neg (Nat.not_lt.2 hlen)).trans ((if_neg (not_not.2 hslave)).trans (if_pos h))
  · exact mbCheck_of_slave_ne f slave fc q hlen hslave

/-- The checks of the slave, the function code and the CRC, part by part. -/
theorem mbCheck_responseCore (a b n : Byte) (rest : List Byte) (v : U16) (slave fc : Byte) (q : U16) :
    mbCheck (responseCore a b n rest ++ le16 v) slave fc q =
      if a ≠ slave then .error .responseMismatch
      else if b ≠ fc then .error .responseMismatch
      else if v ≠ crc16 (responseCore a b n rest) then .error .checksumError
      else mbCheckData (responseCore a b n rest ++ le16 v) fc q v (crc16 (responseCore a b n rest)) := by
  have hlast : (responseCore a b n rest ++ le16 v).length - 1 = (responseCore a b n rest).length + 1 := by simp
  rw [mbCheck, append_le16_length_sub_two, hlast, u16le_append_le16, slice_append_le16, List.drop_zero,
    if_neg (by rw [responseCore_append_length]; omega)]
  rfl

/-- A read response's third byte counts its data. -/
theorem mbCheckData_read (a b n : Byte) (rest : List Byte) (v crc : U16) {fc : Byte} (q : U16)
    (hfc : fc = 0x03 ∨ fc = 0x04) :
    mbCheckData (responseCore a b n rest ++ le16 v) fc q v crc =
      if rest.length ≠ n.toNat then .error .frameFormatError
      else if n.toNat ≠ 2 * q.toNat then .error .responseMismatch
      else .decoded ⟨a, b, rest, v, crc⟩ := by
  have hcount : (byteAt (responseCore a b n rest ++ le16 v) 2).toNat = n.toNat := rfl
  rw [mbCheckData, responseCore_append_length, hcount, if_pos hfc]
  dsimp only
  by_cases hlen : rest.length = n.toNat
  · have hend : 3 + n.toNat = (responseCore a b n rest).length := by simp [responseCore, hlen]; omega
    rw [hend, slice_append_le16, if_neg (by omega), if_neg (not_not.2 hlen)]
    rfl
  · rw [if_pos (by omega), if_pos hlen]

/-- A write response's third byte is the first of four data bytes. -/
theorem mbCheckData_write (a b n : Byte) (rest : List Byte) (v crc : U16) (q : U16) :
    mbCheckData (responseCore a b n rest ++ le16 v) 0x06 q v crc =
      if rest.length ≠ 3 then .error .frameFormatError else .decoded ⟨a, b, n :: rest, v, crc⟩ := by
  rw [mbCheckData, responseCore_append_length, if_neg (by decide)]
  by_cases hlen : rest.length = 3
  · have hend : 6 = (responseCore a b n rest).length := by simp [responseCore, hlen]
    rw [hend, slice_append_le16, if_neg (by omega), if_neg (by omega)]
    rfl
  · rw [if_pos (by omega), if_pos hlen]

/-- With every check before it passed, a byte count that disagrees with the length is a format error. -/
theorem mbCheck_of_count_ne (slave fc n : Byte) (data : List Byte) (q : U16) (hfc : fc = 0x03 ∨ fc = 0x04)
    (hn : n.toNat ≠ data.length) :
    mbCheck (responseCore slave fc n data ++ le16 (crc16 (responseCore slave fc n data))) slave fc q =
      .error .frameFormatError := by
  rw [mbCheck_responseCore, if_neg (not_not.2 rfl), if_neg (not_not.2 rfl), if_neg (not_not.2 rfl),
    mbCheckData_read _ _ _ _ _ _ _ hfc, if_pos hn.symm]

/-! ## Which responses decode, and to what -/

/-- A read response to a request for `q` registers: the byte count counts the data, which are two bytes for each register,
and the CRC is right. -/
def IsReadResponse (slave fc : Byte) (q : U16) (f data : List Byte) : Prop :=
  data.length = 2 * q.toNat ∧ data.length < 256 ∧
    f = responseCore slave fc (BitVec.ofNat 8 data.length) data ++
      le16 (crc16 (responseCore slave fc (BitVec.ofNat 8 data.length) data))

/-- A write response: four data bytes, and the CRC is right. -/
def IsWriteResponse (slave fc : Byte) (f data : List Byte) : Prop :=
  data.length = 4 ∧ f = ([slave, fc] ++ data) ++ le16 (crc16 ([slave, fc] ++ data))

/-- A response decodes when it passes the checks of its slave, its function code and its CRC, and then of its data. -/
theorem mbCheck_eq_decoded_iff (f : List Byte) (slave fc : Byte) (q : U16) (r : FrameFields) :
    mbCheck f slave fc q = .decoded r ↔ ∃ n rest,
      f = responseCore slave fc n rest ++ le16 (crc16 (responseCore slave fc n rest)) ∧
      mbCheckData f fc q (crc16 (responseCore slave fc n rest)) (crc16 (responseCore slave fc n rest)) = .decoded r := by
  constructor
  · intro h
    by_cases hlen : f.length < 5
    · simp [mbCheck_of_short f slave fc q hlen] at h
    · obtain ⟨a, b, n, rest, v, rfl⟩ := exists_eq_responseCore_append f (by omega)
      rw [mbCheck_responseCore] at h
      split_ifs at h with ha hb hv
      obtain rfl := not_not.1 ha
      obtain rfl := not_not.1 hb
      obtain rfl := not_not.1 hv
      exact ⟨n, rest, rfl, h⟩
  · rintro ⟨n, rest, rfl, h⟩
    rw [mbCheck_responseCore, if_neg (not_not.2 rfl), if_neg (not_not.2 rfl), if_neg (not_not.2 rfl), h]

theorem mbCheck_read_eq_decoded_iff (f : List Byte) (slave : Byte) {fc : Byte} (q : U16) (r : FrameFields)
    (hfc : fc = 0x03 ∨ fc = 0x04) :
    mbCheck f slave fc q = .decoded r ↔ ∃ data, IsReadResponse slave fc q f data ∧
      r = ⟨slave, fc, data, crc16 (responseCore slave fc (BitVec.ofNat 8 data.length) data),
        crc16 (responseCore slave fc (BitVec.ofNat 8 data.length) data)⟩ := by
  rw [mbCheck_eq_decoded_iff]
  constructor
  · rintro ⟨n, data, rfl, h⟩
    rw [mbCheckData_read _ _ _ _ _ _ _ hfc] at h
    split_ifs at h with hlen hq
    obtain hlen := not_not.1 hlen
    obtain rfl : n = BitVec.ofNat 8 data.length := by rw [hlen, BitVec.ofNat_toNat, BitVec.setWidth_eq]
    exact ⟨data, ⟨hlen.trans (not_not.1 hq), hlen ▸ BitVec.isLt _, rfl⟩, (FrameResult.decoded.inj h).symm⟩
  · rintro ⟨data, ⟨hlen, hlt, rfl⟩, rfl⟩
    have hcount : (BitVec.ofNat 8 data.length).toNat = data.length := by
      rw [BitVec.toNat_ofNat, Nat.mod_eq_of_lt hlt]
    refine ⟨_, data, rfl, ?_⟩
    rw [mbCheckData_read _ _ _ _ _ _ _ hfc, hcount, if_neg (not_not.2 rfl), if_neg (not_not.2 hlen)]

theorem mbCheck_write_eq_decoded_iff (f : List Byte) (slave : Byte) (q : U16) (r : FrameFields) :
    mbCheck f slave 0x06 q = .decoded r ↔ ∃ data, IsWriteResponse slave 0x06 f data ∧
      r = ⟨slave, 0x06, data, crc16 ([slave, 0x06] ++ data), crc16 ([slave, 0x06] ++ data)⟩ := by
  rw [mbCheck_eq_decoded_iff]
  constructor
  · rintro ⟨n, rest, rfl, h⟩
    rw [mbCheckData_write] at h
    split_ifs at h with hlen
    exact ⟨n :: rest, ⟨congrArg (· + 1) (not_not.1 hlen), rfl⟩, (FrameResult.decoded.inj h).symm⟩
  · rintro ⟨data, ⟨hlen, rfl⟩, rfl⟩
    match data, hlen with
    | n :: rest, hlen =>
      exact ⟨n, rest, rfl, (mbCheckData_write ..).trans (if_neg (not_not.2 (Nat.succ.inj hlen)))⟩

/-- The data of an accepted response are fewer bytes than the response. -/
theorem mbCheck_data_length_le {f : List Byte} {slave fc : Byte} {q : U16} {r : FrameFields}
    (hfc : fc ∈ Config.functionCodes) (h : mbCheck f slave fc q = .decoded r) : r.data.length ≤ f.length := by
  by_cases h6 : fc = 0x06
  · subst h6
    obtain ⟨data, ⟨-, rfl⟩, rfl⟩ := (mbCheck_write_eq_decoded_iff f slave q r).1 h
    simp only [List.length_append]
    omega
  · obtain ⟨data, ⟨-, -, rfl⟩, rfl⟩ := (mbCheck_read_eq_decoded_iff f slave q r (read_of_ne_write hfc h6)).1 h
    rw [responseCore_append_length]
    exact Nat.le_add_right _ _

/-- The CRC over an accepted response and its own two CRC bytes is 0. -/
theorem crc16_eq_zero_of_decoded {f : List Byte} {slave fc : Byte} {q : U16} {r : FrameFields}
    (h : mbCheck f slave fc q = .decoded r) : crc16 f = 0 := by
  obtain ⟨n, rest, rfl, -⟩ := (mbCheck_eq_decoded_iff f slave fc q r).1 h
  exact (crc16_append_le16_eq_zero_iff _ _).2 rfl

/-! ## The codes of the checks -/

theorem mbCheckData_error_code {f : List Byte} {fc : Byte} {q rx crc : U16} {c : StatusCode}
    (h : mbCheckData f fc q rx crc = .error c) : c = .frameFormatError ∨ c = .responseMismatch := by
  simp only [mbCheckData] at h
  split_ifs at h <;> simp [← FrameResult.error.inj h]

theorem mbCheck_error_code {f : List Byte} {slave fc : Byte} {q : U16} {c : StatusCode}
    (h : mbCheck f slave fc q = .error c) : c = .frameFormatError ∨ c = .checksumError ∨ c = .responseMismatch := by
  simp only [mbCheck] at h
  split_ifs at h
  case neg => exact (mbCheckData_error_code h).imp_right .inr
  all_goals simp [← FrameResult.error.inj h]

/-- The code of the checks of the data, by the lengths of the response (R216). -/
theorem resultCode_mbCheckData (a b n : Byte) (rest : List Byte) (v crc : U16) {fc : Byte} (q : U16)
    (hfc : fc ∈ Config.functionCodes) :
    (resultCode (mbCheckData (responseCore a b n rest ++ le16 v) fc q v crc)).code =
      if fc = 0x06 then (if rest.length + 5 ≠ 8 then 0x10 else 0x00)
      else if rest.length + 5 ≠ n.toNat + 5 then 0x10
      else if n.toNat ≠ 2 * q.toNat then 0x12
      else 0x00 := by
  by_cases h6 : fc = 0x06
  · subst h6
    rw [mbCheckData_write, if_pos rfl, apply_ite resultCode, apply_ite StatusCode.code]
    simp only [Nat.reduceEqDiff, ne_eq]
    rfl
  · rw [mbCheckData_read _ _ _ _ _ _ _ (read_of_ne_write hfc h6), if_neg h6]
    simp only [apply_ite resultCode, apply_ite StatusCode.code, ne_eq, Nat.add_right_cancel_iff]
    rfl

/-- The code of `mb_check` is that of the first check that fails, in the order of R216. -/
theorem resultCode_mbCheck (f : List Byte) (slave : Byte) {fc : Byte} (q : U16) (hfc : fc ∈ Config.functionCodes) :
    (resultCode (mbCheck f slave fc q)).code =
      if f.length < 5 then 0x10
      else if f.getD 0 0 ≠ slave then 0x12
      else if f.getD 1 0 ≠ fc then 0x12
      else if f.drop (f.length - 2) ≠ le16 (crc16 (f.take (f.length - 2))) then 0x11
      else if fc = 0x06 then (if f.length ≠ 8 then 0x10 else 0x00)
      else if f.length ≠ (f.getD 2 0).toNat + 5 then 0x10
      else if (f.getD 2 0).toNat ≠ 2 * q.toNat then 0x12
      else 0x00 := by
  by_cases hlen : f.length < 5
  · rw [mbCheck_of_short f slave fc q hlen, if_pos hlen]
    rfl
  · obtain ⟨a, b, n, rest, v, rfl⟩ := exists_eq_responseCore_append f (by omega)
    rw [mbCheck_responseCore, if_neg hlen, append_le16_length_sub_two, List.drop_left, List.take_left,
      responseCore_append_length]
    simp only [apply_ite resultCode, apply_ite StatusCode.code, resultCode_mbCheckData _ _ _ _ _ _ _ hfc, ne_eq,
      le16_injective.eq_iff]
    rfl

theorem resultCode_mbCheck_eq_ok_iff (f : List Byte) (slave fc : Byte) (q : U16) :
    resultCode (mbCheck f slave fc q) = .ok ↔ ∃ r, mbCheck f slave fc q = .decoded r := by
  cases h : mbCheck f slave fc q with
  | error c => simpa using fun hc : c = .ok => by simp [hc] at h; simpa using mbCheck_error_code h
  | decoded r => simp

/-! ## MB_DECODE (R215) -/

/-- MB_DECODE goes on from every state, and its one code is that of the function code's check or of `mb_check`. -/
theorem mbDecodeReports_iff (s : State) (code : Byte) :
    mbDecodeReports s code ↔ code =
      (if s.opb ∈ Config.functionCodes then resultCode (mbCheck s.inBuf s.opa s.opb s.opw1)
        else .unsupportedFunction).code := by
  unfold mbDecodeReports
  by_cases h : s.opb ∈ Config.functionCodes
  · simp [exec_mbDecode_of_mem s h, settleFrame_eq, h, eq_comm]
  · simp [exec_mbDecode_of_not_mem s h, h, eq_comm]

/-- STATUS ends OK exactly on the responses that `mb_check` decodes. -/
theorem mbDecodeReports_ok_iff (s : State) :
    mbDecodeReports s 0x00 ↔
      s.opb ∈ Config.functionCodes ∧ ∃ r, mbCheck s.inBuf s.opa s.opb s.opw1 = .decoded r := by
  rw [mbDecodeReports_iff, eq_comm, StatusCode.code_eq_zero_iff, ← resultCode_mbCheck_eq_ok_iff]
  by_cases h : s.opb ∈ Config.functionCodes <;> simp [h]

/-- The state in which MB_DECODE of a good response ends. -/
def acceptedState (s : State) (crc : U16) (data : List Byte) : State :=
  { s with resSlave := s.opa, resType := s.opb, resRxCrc := crc, resCalcCrc := crc, outBuf := data, status := 0x00 }

/-- If the responses that decode are those of one shape, each with the fields it shows, MB_DECODE ends OK on these and in
no other state than theirs. -/
theorem mbDecode_accepts_iff (s : State) (h : s.opb ∈ Config.functionCodes) (response : List Byte → Prop)
    (crc : List Byte → U16)
    (hcheck : ∀ r, mbCheck s.inBuf s.opa s.opb s.opw1 = .decoded r ↔
      ∃ data, response data ∧ r = ⟨s.opa, s.opb, data, crc data, crc data⟩) :
    (mbDecodeReports s 0x00 ↔ ∃ data, response data) ∧
      ∀ data, exec .mbDecode s = .next (acceptedState s (crc data) data) ↔ response data := by
  have hreports : mbDecodeReports s 0x00 ↔ ∃ data, response data := by
    rw [mbDecodeReports_ok_iff, and_iff_right h]
    simp only [hcheck]
    exact ⟨fun ⟨_, data, hdata, _⟩ => ⟨data, hdata⟩, fun ⟨data, hdata⟩ => ⟨_, data, hdata, rfl⟩⟩
  have hexec : ∀ data, response data → exec .mbDecode s = .next (acceptedState s (crc data) data) :=
    fun data hdata => exec_mbDecode_of_decoded s _ h ((hcheck _).2 ⟨data, hdata, rfl⟩)
  refine ⟨hreports, fun data => ⟨fun hnext => ?_, hexec data⟩⟩
  obtain ⟨data', hdata'⟩ := hreports.1 ⟨_, hnext, rfl⟩
  have hstate := Host.Outcome.next.inj (hnext.symm.trans (hexec data' hdata'))
  obtain rfl : data = data' := congrArg State.outBuf hstate
  exact hdata'

/-- The code of MB_DECODE, check by check in the order of R216 (60_exceptions.md section 2). -/
theorem mbDecode_reports_first_failed (s : State) :
    mbDecodeReports s
      (if s.opb ≠ 0x03 ∧ s.opb ≠ 0x04 ∧ s.opb ≠ 0x06 then 0x13
       else if s.inBuf.length < 5 then 0x10
       else if s.inBuf.getD 0 0 ≠ s.opa then 0x12
       else if s.inBuf.getD 1 0 ≠ s.opb then 0x12
       else if s.inBuf.drop (s.inBuf.length - 2) ≠ le16 (crc16 (s.inBuf.take (s.inBuf.length - 2))) then 0x11
       else if s.opb = 0x06 then (if s.inBuf.length ≠ 8 then 0x10 else 0x00)
       else if s.inBuf.length ≠ (s.inBuf.getD 2 0).toNat + 5 then 0x10
       else if (s.inBuf.getD 2 0).toNat ≠ 2 * s.opw1.toNat then 0x12
       else 0x00) := by
  rw [mbDecodeReports_iff]
  by_cases h : s.opb ∈ Config.functionCodes
  · rw [if_pos h, resultCode_mbCheck _ _ _ h, if_neg]
    rw [mem_functionCodes_iff] at h
    tauto
  · rw [if_neg h, if_pos]
    · rfl
    · rw [mem_functionCodes_iff] at h
      tauto

/-! ## The obligations -/

/-- Settles O41. -/
theorem mbDecodeAcceptsExactly : Obligations.MbDecodeAcceptsExactly := by
  refine ⟨fun s hfc => ?_, fun s hfc => ?_, fun s h3 h4 h6 h => ?_⟩
  · exact mbDecode_accepts_iff s ((mem_functionCodes_iff _).2 (by tauto)) (IsReadResponse s.opa s.opb s.opw1 s.inBuf) _
      fun r => mbCheck_read_eq_decoded_iff s.inBuf s.opa s.opw1 r hfc
  · refine mbDecode_accepts_iff s ((mem_functionCodes_iff _).2 (by tauto)) (IsWriteResponse s.opa s.opb s.inBuf) _
      fun r => ?_
    rw [hfc]
    exact mbCheck_write_eq_decoded_iff s.inBuf s.opa s.opw1 r
  · exact not_mem_functionCodes h3 h4 h6 ((mbDecodeReports_ok_iff s).1 h).1

/-- Settles O42, the consequences each at the check that it names. -/
theorem mbCheckConsequences : Obligations.MbCheckConsequences := by
  refine ⟨mbDecode_reports_first_failed, fun s t hfc hq ht => ?quantity, fun f slave fc q hfc hlen hexc => ?exception,
    fun f slave fc q hlen hslave => ?slave, fun data slave fc bc q hfc hbc => ?count⟩
  case quantity =>
    have hmem : s.opb ∈ Config.functionCodes := (mem_functionCodes_iff _).2 (by tauto)
    cases hcheck : mbCheck s.inBuf s.opa s.opb s.opw1 with
    | decoded r =>
      obtain ⟨data, ⟨hlen, hlt, -⟩, -⟩ := (mbCheck_read_eq_decoded_iff _ _ _ r hfc).1 hcheck
      omega
    | error c =>
      obtain rfl := Host.Outcome.next.inj (ht.symm.trans (exec_mbDecode_of_error s c hmem hcheck))
      obtain rfl | rfl | rfl := mbCheck_error_code hcheck
      · exact .inl rfl
      · exact .inr (.inl rfl)
      · exact .inr (.inr rfl)
  case exception =>
    have hne : f.getD 1 0 ≠ fc := by
      rw [hexc]
      obtain rfl | rfl | rfl := hfc <;> decide
    exact mbCheck_of_function_ne f slave fc q hlen hne
  case slave => exact mbCheck_of_slave_ne f slave fc q hlen hslave
  case count => exact mbCheck_of_count_ne slave fc bc data q hfc hbc

/-- Settles O43: the CRC over an accepted response is 0, over one with a bit inverted it is not. -/
theorem modbusDetectsEverySingleBitError : Obligations.ModbusDetectsEverySingleBitError := by
  intro s t k ht hok hk
  obtain ⟨-, r, hr⟩ := (mbDecodeReports_ok_iff s).1 ⟨t, ht, hok⟩
  obtain ⟨u, hu, -⟩ := (mbDecodeReports_iff { s with inBuf := flipBit s.inBuf k } _).2 rfl
  refine ⟨u, hu, fun huok => ?_⟩
  obtain ⟨-, r', hr'⟩ := (mbDecodeReports_ok_iff { s with inBuf := flipBit s.inBuf k }).1 ⟨u, hu, huok⟩
  exact crc16_flipBit_ne s.inBuf k hk ((crc16_eq_zero_of_decoded hr').trans (crc16_eq_zero_of_decoded hr).symm)

/-- Settles O44: the request is a write response with its address and value as data. -/
theorem mbWriteEchoRoundTrip : Obligations.MbWriteEchoRoundTrip := by
  intro s hfc
  have hmem : s.opb ∈ Config.functionCodes := (mem_functionCodes_iff _).2 (.inr (.inr hfc))
  refine ⟨_, _, exec_mbEncode_of_mem s hmem, exec_bufXfer _, fun x y => ?_⟩
  have hecho : IsWriteResponse s.opa 0x06 (mbRequest s.opa 0x06 s.opw0 s.opw1) (be16 s.opw0 ++ be16 s.opw1) :=
    ⟨rfl, rfl⟩
  have hcheck := (mbCheck_write_eq_decoded_iff _ s.opa y _).2 ⟨_, hecho, rfl⟩
  rw [← hfc] at hcheck
  exact ⟨_, exec_mbDecode_of_decoded _ _ hmem hcheck, rfl, rfl, hfc, rfl⟩

end Sys2Proof.ModbusDecode
end

section
/-! What every command reports and writes (60_exceptions.md, 30_encoding.md section 5). A command has one code, that of its
checks, and one state that it completes in; it ends by `done` in that state when the code is OK, and by `raise` otherwise.
The table of reads and writes and the buffers' bound follow command by command. -/

namespace Sys2Proof.Commands

open Sys2Proof.Machine Sys2Proof.Claims Sys2Proof.Checksum Sys2Proof.Buffers Sys2Proof.Stuffing Sys2Proof.Fastech
  Sys2Proof.Modbus Sys2Proof.FrameResults Sys2Proof.FastechDecode Sys2Proof.ModbusDecode

/-! ## The code and the completed state of a command -/

/-- The code of the command's checks in a state: OK when they all pass, and for a command with no check (R305). -/
def reported : Instr → State → StatusCode
  | .crcCheck, s => if crc16 s.inBuf = s.opw1 then .ok else .checksumError
  | .bufPush _, s => if s.inBuf.length = s.maxBuf then .overflow else .ok
  | .stuff, s => if s.maxBuf < (stuff s.inBuf).length then .overflow else .ok
  | .ftEncode, s => if s.maxBuf < (ftFrame s.ftProfile s.opa s.opb s.inBuf).length then .overflow else .ok
  | .ftDecode, s => resultCode (ftDecode s.ftProfile s.inBuf)
  | .mbEncode, s => if s.opb ∈ Config.functionCodes then .ok else .unsupportedFunction
  | .mbDecode, s =>
    if s.opb ∈ Config.functionCodes then resultCode (mbCheck s.inBuf s.opa s.opb s.opw1) else .unsupportedFunction
  | .nop, _ | .crcInit, _ | .crcUpdate _, _ | .crcFeed, _ | .crcCompute, _ | .bufClear, _ | .bufXfer, _ | .destuff, _
  | .reset, _ => .ok

/-- What the command writes beside STATUS when its checks pass. -/
def completed : Instr → State → State
  | .nop, s => s
  | .crcInit, s => s.setCrc Config.crcSeed
  | .crcUpdate b, s => s.setCrc (crcStep s.crc b)
  | .crcFeed, s => s.setCrc (crcFold s.crc s.inBuf)
  | .crcCompute, s => s.setCrc (crc16 s.inBuf)
  | .crcCheck, s => (s.setResRxCrc s.opw1).setResCalcCrc (crc16 s.inBuf)
  | .bufClear, s => s.setIn []
  | .bufPush b, s => s.setIn (s.inBuf ++ [b])
  | .bufXfer, s => (s.setIn s.outBuf).setOut []
  | .stuff, s => s.setOut (stuff s.inBuf)
  | .destuff, s => s.setOut (destuff s.inBuf)
  | .ftEncode, s =>
    (s.setOut (ftFrame s.ftProfile s.opa s.opb s.inBuf)).setResCalcCrc (crc16 (ftCore s.opa s.opb s.inBuf))
  | .ftDecode, s => writeResult (ftDecode s.ftProfile s.inBuf) s
  | .mbEncode, s => (s.setOut (mbRequest s.opa s.opb s.opw0 s.opw1)).setResCalcCrc
      (crc16 (mbRequestCore s.opa s.opb s.opw0 s.opw1))
  | .mbDecode, s => writeResult (mbCheck s.inBuf s.opa s.opb s.opw1) s
  | .reset, s => s.resetBlock

/-- Where a decode goes on with OK, it was a frame that decoded. -/
theorem settleFrame_cases (r : FrameResult) (s : State) (hr : ∀ c, r = .error c → c ≠ .ok) :
    (resultCode r = .ok ∧ settleFrame r s = finish (writeResult r s)) ∨
      (resultCode r ≠ .ok ∧ settleFrame r s = raise (resultCode r) s) := by
  cases r with
  | error c => exact .inr ⟨hr c rfl, rfl⟩
  | decoded f => exact .inl ⟨rfl, rfl⟩

theorem ftDecode_error_ne_ok {p : Word} {f : List Byte} {c : StatusCode} (h : ftDecode p f = .error c) : c ≠ .ok := by
  obtain rfl | rfl := ftDecode_error_code h <;> decide

theorem mbCheck_error_ne_ok {f : List Byte} {slave fc : Byte} {q : U16} {c : StatusCode}
    (h : mbCheck f slave fc q = .error c) : c ≠ .ok := by
  obtain rfl | rfl | rfl := mbCheck_error_code h <;> decide

/-- How every command ends: by `done` in its completed state when its checks pass, by `raise` of its code otherwise. -/
theorem exec_cases (i : Instr) (s : State) :
    (reported i s = .ok ∧ exec i s = finish (completed i s)) ∨
      (reported i s ≠ .ok ∧ exec i s = raise (reported i s) s) := by
  cases i with
  | nop | crcInit | crcUpdate | crcFeed | crcCompute | bufClear | bufXfer | destuff | reset => exact .inl ⟨rfl, rfl⟩
  | crcCheck =>
    by_cases h : crc16 s.inBuf = s.opw1
    · exact .inl ⟨if_pos h, exec_crcCheck_of_eq s h⟩
    · rw [reported, if_neg h]
      exact .inr ⟨by decide, exec_crcCheck_of_ne s h⟩
  | bufPush b =>
    by_cases h : s.inBuf.length = s.maxBuf
    · rw [reported, if_pos h]
      exact .inr ⟨by decide, exec_bufPush_of_eq b s h⟩
    · exact .inl ⟨if_neg h, exec_bufPush_of_ne b s h⟩
  | stuff =>
    by_cases h : s.maxBuf < (stuff s.inBuf).length
    · rw [reported, if_pos h]
      exact .inr ⟨by decide, exec_stuff_of_lt s h⟩
    · exact .inl ⟨if_neg h, exec_stuff_of_le s (Nat.not_lt.1 h)⟩
  | ftEncode =>
    by_cases h : s.maxBuf < (ftFrame s.ftProfile s.opa s.opb s.inBuf).length
    · rw [reported, if_pos h]
      exact .inr ⟨by decide, exec_ftEncode_of_lt s h⟩
    · exact .inl ⟨if_neg h, exec_ftEncode_of_le s (Nat.not_lt.1 h)⟩
  | ftDecode => exact settleFrame_cases _ s fun _ => ftDecode_error_ne_ok
  | mbEncode =>
    by_cases h : s.opb ∈ Config.functionCodes
    · exact .inl ⟨if_pos h, exec_mbEncode_of_mem s h⟩
    · rw [reported, if_neg h]
      exact .inr ⟨by decide, exec_mbEncode_of_not_mem s h⟩
  | mbDecode =>
    by_cases h : s.opb ∈ Config.functionCodes
    · rw [reported, if_pos h, exec_mbDecode_of_mem s h]
      exact settleFrame_cases _ s fun _ => mbCheck_error_ne_ok
    · rw [reported, if_neg h]
      exact .inr ⟨by decide, exec_mbDecode_of_not_mem s h⟩

/-- What a command's next state can be. -/
theorem exec_next_cases {i : Instr} {s t : State} (h : exec i s = .next t) :
    (reported i s = .ok ∧ t = (completed i s).setStatus .ok) ∨
      (reported i s ≠ .ok ∧ t = s.setStatus (reported i s)) := by
  obtain ⟨hok, hexec⟩ | ⟨hfailed, hexec⟩ := exec_cases i s
  · exact .inl ⟨hok, (finish_next_iff _ t).1 (hexec.symm.trans h)⟩
  · exact .inr ⟨hfailed, (raise_next_iff _ s t).1 (hexec.symm.trans h)⟩

/-- Every command goes on from every state, with its code in STATUS (R311). -/
theorem exec_reports (i : Instr) (s : State) : ∃ t, exec i s = .next t ∧ t.status = (reported i s).code := by
  obtain ⟨hok, hexec⟩ | ⟨-, hexec⟩ := exec_cases i s
  · exact ⟨_, hexec, by rw [hok]; rfl⟩
  · exact ⟨_, hexec, rfl⟩

theorem reported_mem_reportable (i : Instr) (s : State) : reported i s ∈ reportable i := by
  cases i with
  | nop | crcInit | crcUpdate | crcFeed | crcCompute | bufClear | bufXfer | destuff | reset => exact List.mem_singleton.2 rfl
  | crcCheck | bufPush | stuff | ftEncode | mbEncode =>
    rw [reported]
    split <;> simp [reportable]
  | ftDecode =>
    rw [reported]
    cases h : ftDecode s.ftProfile s.inBuf with
    | decoded r => simp [reportable]
    | error c => obtain rfl | rfl := ftDecode_error_code h <;> simp [reportable]
  | mbDecode =>
    rw [reported]
    split
    · cases h : mbCheck s.inBuf s.opa s.opb s.opw1 with
      | decoded r => simp [reportable]
      | error c => obtain rfl | rfl | rfl := mbCheck_error_code h <;> simp [reportable]
    · simp [reportable]

/-! ## What a command leaves unchanged (R98) -/

/-- What no command writes: the two parameters and the host's side of the bus. -/
def SameOutside (s t : State) : Prop := t.maxBuf = s.maxBuf ∧ t.base = s.base ∧ t.bus = s.bus ∧ t.rdata = s.rdata

theorem sameOutside_writeResult (r : FrameResult) (s : State) : SameOutside s (writeResult r s) := by
  cases r <;> exact ⟨rfl, rfl, rfl, rfl⟩

theorem sameOutside_completed (i : Instr) (s : State) : SameOutside s (completed i s) := by
  cases i with
  | ftDecode | mbDecode => exact sameOutside_writeResult _ s
  | _ => exact ⟨rfl, rfl, rfl, rfl⟩

theorem sameOutside_of_exec {i : Instr} {s t : State} (h : exec i s = .next t) : SameOutside s t := by
  obtain ⟨-, rfl⟩ | ⟨-, rfl⟩ := exec_next_cases h
  · exact sameOutside_completed i s
  · exact ⟨rfl, rfl, rfl, rfl⟩

theorem agreesAt_refl (s : State) (l : Loc) : agreesAt s s l := by cases l <;> rfl

theorem agreesAt_setStatus {s t : State} (c : StatusCode) {l : Loc} (hl : l ≠ .status) (h : agreesAt s t l) :
    agreesAt s (t.setStatus c) l := by
  cases l with
  | status => exact absurd rfl hl
  | _ => exact h

theorem status_mem_writes (i : Instr) : Loc.status ∈ writes i := by cases i <;> simp [writes]

theorem agreesAt_writeResult (r : FrameResult) (s : State) {l : Loc}
    (hl : l ∉ [Loc.outBuf, .resSlave, .resType, .resRxCrc, .resCalcCrc, .status]) : agreesAt s (writeResult r s) l := by
  cases r with
  | error c => exact agreesAt_refl s l
  | decoded f =>
    cases l with
    | outBuf | resSlave | resType | resRxCrc | resCalcCrc => simp at hl
    | _ => rfl

/-- A command that completes changes only what its row lists. -/
theorem agreesAt_completed (i : Instr) (s : State) {l : Loc} (hl : l ∉ writes i) : agreesAt s (completed i s) l := by
  cases i with
  | nop => exact agreesAt_refl s l
  | crcInit | crcUpdate | crcFeed | crcCompute =>
    cases l with
    | crc => simp [writes] at hl
    | _ => rfl
  | crcCheck =>
    cases l with
    | resRxCrc | resCalcCrc => simp [writes] at hl
    | _ => rfl
  | bufClear | bufPush =>
    cases l with
    | inBuf => simp [writes] at hl
    | _ => rfl
  | bufXfer =>
    cases l with
    | inBuf | outBuf => simp [writes] at hl
    | _ => rfl
  | stuff | destuff =>
    cases l with
    | outBuf => simp [writes] at hl
    | _ => rfl
  | ftEncode | mbEncode =>
    cases l with
    | outBuf | resCalcCrc => simp [writes] at hl
    | _ => rfl
  | ftDecode | mbDecode => exact agreesAt_writeResult _ s hl
  | reset => cases l <;> simp [writes] at hl

/-- A command leaves what its row does not list, and a command that fails leaves everything but STATUS. -/
theorem agreesAt_of_exec {i : Instr} {s t : State} (h : exec i s = .next t) :
    (∀ l, l ∉ writes i → agreesAt s t l) ∧ (t.status ≠ 0x00 → ∀ l, l ≠ .status → agreesAt s t l) := by
  obtain ⟨-, rfl⟩ | ⟨-, rfl⟩ := exec_next_cases h
  · exact ⟨fun l hl => agreesAt_setStatus .ok (fun hs => hl (hs ▸ status_mem_writes i)) (agreesAt_completed i s hl),
      fun hne => absurd rfl hne⟩
  · have hrest : ∀ l, l ≠ .status → agreesAt s (s.setStatus (reported i s)) l := fun l hl =>
      agreesAt_setStatus _ hl (agreesAt_refl s l)
    exact ⟨fun l hl => hrest l (fun hs => hl (hs ▸ status_mem_writes i)), fun _ => hrest⟩

/-! ## What a command depends on (R98) -/

/-- The checks depend only on what the row reads and on the capacity. -/
theorem reported_congr (i : Instr) {s s' : State} (hreads : ∀ l ∈ reads i, agreesAt s s' l)
    (hcap : s.maxBuf = s'.maxBuf) : reported i s = reported i s' := by
  cases i with
  | nop | crcInit | crcUpdate | crcFeed | crcCompute | bufClear | bufXfer | destuff | reset => rfl
  | crcCheck | bufPush | stuff | ftEncode | ftDecode | mbEncode | mbDecode =>
    simp [reads, agreesAt] at hreads
    simp only [reported, hreads, hcap]

/-- The five results of a frame that decodes depend only on the frame. -/
theorem agreesAt_writeResult_of_ok {r : FrameResult} (s s' : State) (hok : resultCode r = .ok)
    (herror : ∀ c, r = .error c → c ≠ .ok) :
    ∀ l ∈ [Loc.outBuf, .resSlave, .resType, .resRxCrc, .resCalcCrc, .status],
      agreesAt ((writeResult r s).setStatus .ok) ((writeResult r s').setStatus .ok) l := by
  cases r with
  | error c => exact absurd hok (herror c rfl)
  | decoded f => simp [writeResult, agreesAt]

/-- What a command that completes writes depends only on what the row reads. -/
theorem agreesAt_completed_congr (i : Instr) {s s' : State} (hreads : ∀ l ∈ reads i, agreesAt s s' l)
    (hok : reported i s = .ok) :
    ∀ l ∈ writes i, agreesAt ((completed i s).setStatus .ok) ((completed i s').setStatus .ok) l := by
  cases i with
  | nop | crcInit | bufClear | reset => simp [writes, completed, agreesAt]
  | crcUpdate | crcFeed | crcCompute | crcCheck | bufPush | bufXfer | stuff | destuff | ftEncode | mbEncode =>
    simp [reads, agreesAt] at hreads
    simp [writes, completed, agreesAt, hreads]
  | ftDecode =>
    obtain ⟨hin, hprofile⟩ : s.inBuf = s'.inBuf ∧ s.ftProfile = s'.ftProfile := by
      simpa [reads, agreesAt] using hreads
    rw [completed, completed, ← hin, ← hprofile]
    exact agreesAt_writeResult_of_ok s s' hok fun _ => ftDecode_error_ne_ok
  | mbDecode =>
    obtain ⟨hin, hopa, hopb, hopw1⟩ : s.inBuf = s'.inBuf ∧ s.opa = s'.opa ∧ s.opb = s'.opb ∧ s.opw1 = s'.opw1 := by
      simpa [reads, agreesAt] using hreads
    rw [completed, completed, ← hin, ← hopa, ← hopb, ← hopw1]
    rw [reported] at hok
    split at hok
    · exact agreesAt_writeResult_of_ok s s' hok fun _ => mbCheck_error_ne_ok
    · cases hok

/-! ## The buffers' bound (R143) -/

theorem writeResult_keeps_wf (r : FrameResult) (s : State) (hwf : Memory.wf s)
    (hfit : ∀ f, r = .decoded f → f.data.length ≤ s.maxBuf) : Memory.wf (writeResult r s) := by
  cases r with
  | error c => exact hwf
  | decoded f => exact setOut_keeps_wf _ f.data hwf (hfit f rfl)

/-- A command that completes keeps the bound, at every capacity that holds a Modbus request. -/
theorem completed_keeps_wf (i : Instr) (s : State) (hwf : Memory.wf s) (hcap : 8 ≤ s.maxBuf)
    (hok : reported i s = .ok) : Memory.wf (completed i s) := by
  cases i with
  | nop | crcInit | crcUpdate | crcFeed | crcCompute | crcCheck => exact hwf
  | bufClear => exact setIn_nil_keeps_wf s hwf
  | bufPush b => exact setIn_push_keeps_wf s b hwf (by simpa [reported] using hok)
  | bufXfer => exact xfer_keeps_wf s hwf
  | stuff => exact setOut_keeps_wf s _ hwf (by simpa [reported] using hok)
  | destuff => exact setOut_keeps_wf s _ hwf ((destuff_length_le s.inBuf).trans hwf.1)
  | ftEncode => exact setOut_keeps_wf s _ hwf (by simpa [reported] using hok)
  | mbEncode => exact setOut_keeps_wf s _ hwf hcap
  | ftDecode => exact writeResult_keeps_wf _ s hwf fun _ h => (ftDecode_data_length_le h).trans hwf.1
  | mbDecode =>
    have hfc : s.opb ∈ Config.functionCodes := by
      by_contra hfc
      simp [reported, hfc] at hok
    exact writeResult_keeps_wf _ s hwf fun _ h => (mbCheck_data_length_le hfc h).trans hwf.1
  | reset => exact resetBlock_wf s

/-- Every command keeps a good state good. -/
theorem exec_keeps_good {i : Instr} {s t : State} (hgood : s.Good) (h : exec i s = .next t) : t.Good := by
  obtain ⟨hmin, hmax, hwf, hstatus⟩ := hgood
  obtain ⟨hok, rfl⟩ | ⟨-, rfl⟩ := exec_next_cases h
  · obtain ⟨hcap, -⟩ := sameOutside_completed i s
    have hroom : 8 ≤ s.maxBuf := le_trans (by decide) hmin
    refine ⟨?_, ?_, completed_keeps_wf i s hwf hroom hok, StatusCode.code_mem_statusValues .ok⟩
    · simpa [hcap] using hmin
    · simpa [hcap] using hmax
  · exact ⟨hmin, hmax, hwf, StatusCode.code_mem_statusValues _⟩

/-! ## The obligations -/

/-- Settles O46. -/
theorem everyCommandCompletesWithItsCodes : Obligations.EveryCommandCompletesWithItsCodes := by
  intro i s
  obtain ⟨t, ht, hstatus⟩ := exec_reports i s
  exact ⟨t, ht, hstatus ▸ List.mem_map_of_mem (reported_mem_reportable i s)⟩

/-- Settles O47: the frame of one run, and two runs that take the same way out. -/
theorem commandsReadAndWriteOnlyTheirRow : Obligations.CommandsReadAndWriteOnlyTheirRow := by
  refine ⟨fun i s t h => ?_, fun i s s' t t' hreads hcap h h' => ?_⟩
  · obtain ⟨hrow, hfailed⟩ := agreesAt_of_exec h
    exact ⟨hrow, hfailed, sameOutside_of_exec h⟩
  · have hcode := reported_congr i hreads hcap
    obtain ⟨hok, rfl⟩ | ⟨hfailed, rfl⟩ := exec_next_cases h
    · obtain ⟨-, rfl⟩ | ⟨hfailed', -⟩ := exec_next_cases h'
      · exact ⟨rfl, fun _ => agreesAt_completed_congr i hreads hok⟩
      · exact absurd (hcode.symm.trans hok) hfailed'
    · obtain ⟨hok', -⟩ | ⟨-, rfl⟩ := exec_next_cases h'
      · exact absurd (hcode.trans hok') hfailed
      · exact ⟨congrArg StatusCode.code hcode, fun hzero => absurd ((StatusCode.code_eq_zero_iff _).1 hzero) hfailed⟩

/-- Settles O7. -/
theorem resetRestoresEveryRegister : Obligations.ResetRestoresEveryRegister :=
  ⟨EncodeDecode.decode_encode .reset, fun s => (finish_next_iff s.resetBlock _).2 rfl⟩

/-- Settles O9: the reset state has no supported function code, no frame in IN, and room for the empty frame. -/
theorem commandsAfterReset : Obligations.CommandsAfterReset := by
  intro n base hmin _
  have hfc : (State.resetWith n base).opb ∉ Config.functionCodes := by
    rw [State.resetWith_opb]
    decide
  have hframe : ftFrame 0xEEAACCAA 0x00 0x00 [] = [0xAA, 0xCC, 0x00, 0x00, 0x01, 0xB0, 0xAA, 0xEE] := by decide +kernel
  have hcrc : crc16 [0x00, 0x00] = 0xB001 := by decide +kernel
  have hempty : ftDecode 0xEEAACCAA [] = .error .frameFormatError := by decide
  have hencode : exec .ftEncode (State.resetWith n base) = .next (((State.resetWith n base).setOut
      (ftFrame 0xEEAACCAA 0x00 0x00 [])).setResCalcCrc (crc16 [0x00, 0x00]) |>.setStatus .ok) :=
    exec_ftEncode_of_le _ ((congrArg List.length hframe).trans_le ((by decide : 8 ≤ 16).trans hmin))
  rw [hframe, hcrc] at hencode
  exact ⟨exec_mbEncode_of_not_mem _ hfc, exec_mbDecode_of_not_mem _ hfc, hencode, exec_ftDecode_of_error _ .frameFormatError hempty,
    exec_stuff_of_le _ (Nat.zero_le n), exec_destuff _⟩

end Sys2Proof.Commands
end

section
/-! The accesses of the host (20_memory.md). Whatever a step does, it takes one event off the bus and does one of a few
things to the block; from this follow the order of service, the invariant of good states, and that no access the block
defines stops it. -/

namespace Sys2Proof.Accesses

open Sys2Proof.Machine Sys2Proof.Encoding Sys2Proof.Commands

/-! ## What serving an event can do -/

/-- The states that serving one event can lead to. -/
inductive Served (s : State) : State → Prop where
  | read (v : Word) : Served s (s.setRdata v)
  | command (i : Instr) (t : State) (h : exec i s = .next t) : Served s t
  | illegal : Served s (s.setStatus .illegalCommand)
  | opa (v : Byte) : Served s (s.setOpa v)
  | opb (v : Byte) : Served s (s.setOpb v)
  | opw0 (v : U16) : Served s (s.setOpw0 v)
  | opw1 (v : U16) : Served s (s.setOpw1 v)
  | profile (v : Word) : Served s (s.setProfile v)
  | ignored : Served s s
  | reset : Served s s.resetBlock

theorem writeCmd_of_command {w : Word} {i : Instr} {s : State} (h : decode w = .command i) : writeCmd w s = exec i s := by
  rw [writeCmd, h]

theorem writeCmd_of_illegal {w : Word} {why : Illegal} {s : State} (h : decode w = .illegal why) :
    writeCmd w s = .next (s.setStatus .illegalCommand) := by
  rw [writeCmd, h]
  rfl

/-- A write to any offset goes on, whatever the word. -/
theorem writeTarget_served (a : Target) (v : Word) (s : State) : ∃ t, writeTarget a v s = .next t ∧ Served s t := by
  cases a with
  | inWindow | outWindow | reserved => exact ⟨s, rfl, .ignored⟩
  | reg r =>
    cases r with
    | cmd =>
      cases h : decode v with
      | command i =>
        obtain ⟨t, ht, -⟩ := exec_reports i s
        exact ⟨t, (writeCmd_of_command h).trans ht, .command i t ht⟩
      | illegal why => exact ⟨_, writeCmd_of_illegal h, .illegal⟩
    | opa => exact ⟨_, rfl, .opa _⟩
    | opb => exact ⟨_, rfl, .opb _⟩
    | opw0 => exact ⟨_, rfl, .opw0 _⟩
    | opw1 => exact ⟨_, rfl, .opw1 _⟩
    | ftProfile => exact ⟨_, rfl, .profile v⟩
    | status | crc | resId | resCrc | inLen | outLen | caps => exact ⟨s, rfl, .ignored⟩

theorem served_of_serve {e : BusEvent} {s t : State} (h : serve e s = .next t) : Served s t := by
  cases e with
  | read addr width =>
    rw [serve] at h
    obtain ⟨o, -, -, -, -, hread⟩ := atOffset_next s t addr width _ h
    obtain rfl := Host.Outcome.next.inj hread
    exact .read _
  | write addr width v =>
    rw [serve] at h
    obtain ⟨o, -, -, -, -, hwrite⟩ := atOffset_next s t addr width _ h
    obtain ⟨u, hu, hserved⟩ := writeTarget_served (targetOf o) v s
    obtain rfl := Host.Outcome.next.inj (hu.symm.trans hwrite)
    exact hserved
  | hardwareReset =>
    obtain rfl := Host.Outcome.next.inj h
    exact .reset

/-- The accesses that the block defines: 4 bytes, at an offset of the space that is a multiple of 4 (R60, R61). -/
theorem exists_offset_of_accessWellFormed {base addr width : Nat} (h : accessWellFormed base addr width = true) :
    ∃ o, addr = base + o ∧ o < Config.spaceSize ∧ o % 4 = 0 ∧ width = 4 := by
  simp only [accessWellFormed, Bool.and_eq_true, decide_eq_true_eq, beq_iff_eq] at h
  obtain ⟨⟨⟨hbase, hspace⟩, hwidth⟩, halign⟩ := h
  exact ⟨addr - base, by omega, by omega, halign, hwidth⟩

/-- A defined event is served to its end. -/
theorem serve_continues {e : BusEvent} {s : State} (he : e.wellFormed s.base = true) : ∃ t, serve e s = .next t := by
  cases e with
  | read addr width =>
    obtain ⟨o, rfl, ho, h4, rfl⟩ := exists_offset_of_accessWellFormed he
    exact ⟨_, by rw [serve, atOffset_defined s o _ ho h4]⟩
  | write addr width v =>
    obtain ⟨o, rfl, ho, h4, rfl⟩ := exists_offset_of_accessWellFormed he
    obtain ⟨t, ht, -⟩ := writeTarget_served (targetOf o) v s
    exact ⟨t, by rw [serve, atOffset_defined s o _ ho h4, ht]⟩
  | hardwareReset => exact ⟨_, rfl⟩

/-- Serving an event touches neither the accesses that wait nor the two parameters. -/
theorem Served.outside {s t : State} (h : Served s t) : t.bus = s.bus ∧ t.maxBuf = s.maxBuf ∧ t.base = s.base := by
  cases h with
  | command i _ h =>
    obtain ⟨hcap, hbase, hbus, -⟩ := sameOutside_of_exec h
    exact ⟨hbus, hcap, hbase⟩
  | _ => exact ⟨rfl, rfl, rfl⟩

theorem Served.keeps_good {s t : State} (hgood : s.Good) (h : Served s t) : t.Good := by
  obtain ⟨hmin, hmax, hwf, hstatus⟩ := hgood
  cases h with
  | command i _ h => exact exec_keeps_good ⟨hmin, hmax, hwf, hstatus⟩ h
  | illegal => exact ⟨hmin, hmax, hwf, StatusCode.code_mem_statusValues .illegalCommand⟩
  | reset => exact ⟨hmin, hmax, resetBlock_wf s, StatusCode.code_mem_statusValues .ok⟩
  | read | opa | opb | opw0 | opw1 | profile | ignored => exact ⟨hmin, hmax, hwf, hstatus⟩

/-- What one step can do: keep an idle block, or serve the first event on the bus. -/
theorem step_next_cases {s t : State} (h : step s = .next t) :
    (s.bus = [] ∧ t = s) ∨ ∃ e es, s.bus = e :: es ∧ Served (s.setBus es) t := by
  cases hbus : s.bus with
  | nil => exact .inl ⟨rfl, (Host.Outcome.next.inj ((step_idle s hbus).symm.trans h)).symm⟩
  | cons e es => exact .inr ⟨e, es, rfl, served_of_serve ((step_cons s e es hbus).symm.trans h)⟩

/-- The next step of a block whose waiting accesses are all defined goes on, and those that wait are defined still. -/
theorem step_continues_of_busDefined {s : State} (h : s.BusDefined) : ∃ t, step s = .next t ∧ t.BusDefined := by
  cases hbus : s.bus with
  | nil => exact ⟨s, step_idle s hbus, h⟩
  | cons e es =>
    rw [State.BusDefined, hbus, List.forall_mem_cons] at h
    obtain ⟨he, hes⟩ := h
    obtain ⟨t, ht⟩ := serve_continues (s := s.setBus es) he
    obtain ⟨htbus, -, htbase⟩ := (served_of_serve ht).outside
    refine ⟨t, (step_cons s e es hbus).trans ht, ?_⟩
    rw [State.BusDefined, htbus, htbase]
    exact hes

/-! ## The obligations -/

/-- Settles O48, by what serving an event can do. -/
theorem stepKeepsGoodStates : Obligations.StepKeepsGoodStates := by
  intro s t hgood h
  obtain ⟨-, rfl⟩ | ⟨e, es, -, hserved⟩ := step_next_cases h
  · exact hgood
  · exact hserved.keeps_good (s := s.setBus es) hgood

/-- Settles O49. -/
theorem resetStateIsGood : Obligations.ResetStateIsGood := fun _ _ hmin hmax =>
  ⟨hmin, hmax, ⟨Nat.zero_le _, Nat.zero_le _⟩, StatusCode.code_mem_statusValues .ok⟩

/-- Settles O50, by induction on the number of steps. -/
theorem definedAccessesNeverStop : Obligations.DefinedAccessesNeverStop := by
  intro n
  induction n with
  | zero => exact fun _ _ => trivial
  | succ n ih =>
    intro s hs
    obtain ⟨t, ht, hdefined⟩ := step_continues_of_busDefined hs
    exact ⟨t, ht, ih t hdefined⟩

/-- Settles O51. -/
theorem accessesServedInOrder : Obligations.AccessesServedInOrder := by
  refine ⟨fun s t e rest hbus h => ?_, step_idle⟩
  exact (served_of_serve ((step_cons s e rest hbus).symm.trans h)).outside

/-- Settles O8: both resets give the block its reset state and keep the host's side. -/
theorem hardwareResetEqualsSoftReset : Obligations.HardwareResetEqualsSoftReset := by
  intro s rest hbus
  have hstep : step s = .next (s.setBus rest).resetBlock := step_cons s _ rest hbus
  exact ⟨hstep, hstep⟩

end Sys2Proof.Accesses
end

section
/-! The host's port (20_memory.md section 1, 10_state.md section 3). Each offset names one target, a read returns what the
target shows and changes nothing of the block, and a write does what the target's rule says. -/

namespace Sys2Proof.HostPort

open Sys2Proof.Machine Sys2Proof.Claims Sys2Proof.Encoding Sys2Proof.Checksum Sys2Proof.Buffers Sys2Proof.Accesses

/-! ## The address map (R60) -/

theorem regOffset_defined (r : Reg) : regOffset r < Config.spaceSize ∧ regOffset r % 4 = 0 := by
  cases r <;> decide

theorem regOffset_lt (r : Reg) : regOffset r < 0x34 := by cases r <;> decide

/-- Past the registers an offset names a window's word, or nothing. -/
theorem targetOf_of_ge (o : Nat) (h : 0x34 ≤ o) :
    targetOf o = if 0x1000 ≤ o ∧ o < 0x2000 then .inWindow ((o - 0x1000) / 4)
      else if 0x2000 ≤ o ∧ o < 0x3000 then .outWindow ((o - 0x2000) / 4) else .reserved := by
  have hnone : registers.find? (fun r => regOffset r == o) = none :=
    List.find?_eq_none.2 fun r _ => by simpa using ((regOffset_lt r).trans_le h).ne
  rw [targetOf, hnone]

theorem targetOf_inWindow (i : Nat) (hi : i < 1024) : targetOf (0x1000 + 4 * i) = .inWindow i := by
  rw [targetOf_of_ge _ (by omega), if_pos (by omega), Nat.add_sub_cancel_left, Nat.mul_div_cancel_left i (by omega)]

theorem targetOf_outWindow (i : Nat) (hi : i < 1024) : targetOf (0x2000 + 4 * i) = .outWindow i := by
  rw [targetOf_of_ge _ (by omega), if_neg (by omega), if_pos (by omega), Nat.add_sub_cancel_left,
    Nat.mul_div_cancel_left i (by omega)]

theorem targetOf_reserved (o : Nat) (h : (0x0034 ≤ o ∧ o < 0x1000) ∨ (0x3000 ≤ o ∧ o < 0x4000)) :
    targetOf o = .reserved := by
  rw [targetOf_of_ge o (by omega), if_neg (by omega), if_neg (by omega)]

/-! ## Reads (R61, R63) -/

/-- What a target shows does not depend on the accesses that wait or on the word read before. -/
theorem readTarget_host (s : State) (es : List BusEvent) (x : Option Word) (a : Target) :
    readTarget { s with bus := es, rdata := x } a = readTarget s a := by
  cases a with
  | reg r => cases r <;> rfl
  | inWindow | outWindow | reserved => rfl

/-- A read of a defined offset returns what its target shows, whatever the host read before. -/
theorem step_read_target (s : State) (o : Nat) (es : List BusEvent) (x : Option Word) (ho : o < Config.spaceSize)
    (h4 : o % 4 = 0) :
    step { s with bus := .read (s.base + o) 4 :: es, rdata := x } =
      .next { s with bus := es, rdata := some (readTarget s (targetOf o)) } := by
  rw [step_read _ o es rfl ho h4, ← readTarget_host s es x]
  rfl

theorem readGives_of_target {o : Nat} {v : State → Word} (ho : o < Config.spaceSize) (h4 : o % 4 = 0)
    (h : ∀ s, readTarget s (targetOf o) = v s) : readGives o v := by
  intro s es
  rw [← h s]
  exact step_read_target s o es s.rdata ho h4

theorem readGives_reg (r : Reg) {v : State → Word} (h : ∀ s, readReg s r = v s) : readGives (regOffset r) v :=
  readGives_of_target (regOffset_defined r).1 (regOffset_defined r).2 fun s => by
    rw [targetOf_regOffset]
    exact h s

/-- Two fields side by side, as a number. -/
theorem shiftLeft_or_eq_ofNat {m n : Nat} (a : BitVec m) (b : BitVec n) (h : m + n ≤ 32) :
    (a.setWidth 32 <<< n) ||| b.setWidth 32 = BitVec.ofNat 32 (b.toNat + 2 ^ n * a.toNat) := by
  have ha : a.toNat * 2 ^ n < 2 ^ 32 := calc
    a.toNat * 2 ^ n < 2 ^ m * 2 ^ n := Nat.mul_lt_mul_of_pos_right a.isLt (Nat.two_pow_pos n)
    _ ≤ 2 ^ 32 := by rw [← Nat.pow_add]; exact Nat.pow_le_pow_right (by omega) h
  have ha' : a.toNat < 2 ^ 32 := (Nat.le_mul_of_pos_right _ (Nat.two_pow_pos n)).trans_lt ha
  have hb : b.toNat < 2 ^ 32 := b.isLt.trans_le (Nat.pow_le_pow_right (by omega) (by omega))
  have hor : a.toNat * 2 ^ n ||| b.toNat = a.toNat * 2 ^ n + b.toNat := by
    rw [← Nat.shiftLeft_eq, Nat.shiftLeft_add_eq_or_of_lt b.isLt]
  apply BitVec.eq_of_toNat_eq
  rw [BitVec.toNat_or, BitVec.toNat_shiftLeft, BitVec.toNat_setWidth, BitVec.toNat_setWidth, BitVec.toNat_ofNat,
    Nat.mod_eq_of_lt ha', Nat.mod_eq_of_lt hb, Nat.shiftLeft_eq, Nat.mod_eq_of_lt ha, hor, Nat.add_comm, Nat.mul_comm]
  refine (Nat.mod_eq_of_lt ?_).symm
  rw [← Nat.mul_comm, Nat.add_comm, ← hor]
  exact Nat.or_lt_two_pow ha hb

/-- A length shown in a field of `k` bits is its remainder. -/
theorem setWidth_ofNat_eq (k n : Nat) : (BitVec.ofNat k n).setWidth 32 = BitVec.ofNat 32 (n % 2 ^ k) := by
  apply BitVec.eq_of_toNat_eq
  rw [BitVec.toNat_setWidth, BitVec.toNat_ofNat, BitVec.toNat_ofNat]

theorem readWindow_eq (buf : List Byte) (i : Nat) :
    readWindow buf i = if h : i < buf.length then (buf[i]).setWidth 32 else 0 := by
  rw [readWindow]
  by_cases h : i < buf.length
  · rw [if_pos h, dif_pos h, byteAt, List.getD_eq_getElem _ _ h]
  · rw [if_neg h, dif_neg h]

theorem readGives_windows (i : Nat) (hi : i < 1024) :
    readGives (0x1000 + 4 * i) (fun s => if h : i < s.inBuf.length then (s.inBuf[i]).setWidth 32 else 0) ∧
    readGives (0x2000 + 4 * i) (fun s => if h : i < s.outBuf.length then (s.outBuf[i]).setWidth 32 else 0) := by
  refine ⟨readGives_of_target ?_ (by omega) fun s => ?_, readGives_of_target ?_ (by omega) fun s => ?_⟩
  · exact (by omega : 0x1000 + 4 * i < 0x4000)
  · rw [targetOf_inWindow i hi]
    exact readWindow_eq s.inBuf i
  · exact (by omega : 0x2000 + 4 * i < 0x4000)
  · rw [targetOf_outWindow i hi]
    exact readWindow_eq s.outBuf i

/-! ## Writes (R61, R90) -/

theorem writeGives_of_target {o : Nat} {f : Word → State → State} (ho : o < Config.spaceSize) (h4 : o % 4 = 0)
    (h : ∀ v s, writeTarget (targetOf o) v s = .next (f v s)) : writeGives o f := fun s es v =>
  (step_write _ o v es rfl ho h4).trans (h v { s with bus := es })

theorem writeGives_reg (r : Reg) {f : Word → State → State} (h : ∀ v s, writeReg r v s = .next (f v s)) :
    writeGives (regOffset r) f :=
  writeGives_of_target (regOffset_defined r).1 (regOffset_defined r).2 fun v s => by
    rw [targetOf_regOffset]
    exact h v s

theorem writeIgnored_windows (i : Nat) (hi : i < 1024) :
    writeIgnored (0x1000 + 4 * i) ∧ writeIgnored (0x2000 + 4 * i) := by
  refine ⟨writeGives_of_target ?_ (by omega) fun v s => ?_, writeGives_of_target ?_ (by omega) fun v s => ?_⟩
  · exact (by omega : 0x1000 + 4 * i < 0x4000)
  · rw [targetOf_inWindow i hi]
    rfl
  · exact (by omega : 0x2000 + 4 * i < 0x4000)
  · rw [targetOf_outWindow i hi]
    rfl

/-- Writing the same word twice does what writing it once does, at an offset whose write only sets a part of the block that
the bus is not. -/
theorem step_write_again {o : Nat} {v : Word} {f : State → State} (ho : o < Config.spaceSize) (h4 : o % 4 = 0)
    (hwrite : ∀ s, writeTarget (targetOf o) v s = .next (f s)) (hbase : ∀ s, (f s).base = s.base)
    (hbus : ∀ s, (f s).bus = s.bus) (hagain : ∀ s es, f ((f s).setBus es) = (f s).setBus es) {s t : State}
    {es : List BusEvent} (hs : s.bus = .write (s.base + o) 4 v :: .write (s.base + o) 4 v :: es)
    (h : step s = .next t) : step t = .next (t.setBus es) := by
  rw [step_write s o v _ hs ho h4, hwrite] at h
  obtain rfl := Host.Outcome.next.inj h
  rw [step_write _ o v es (by rw [hbus, hbase]; rfl) ho h4, hwrite, hagain]

/-! ## Runs -/

theorem run_zero (s : State) : Host.Core.run core 0 s = .next s := rfl

/-- A run of any machine takes its first step and goes on from there. -/
theorem run_succ_of_step {M : Host.Core} (k : Nat) {s t : M.State} (h : M.step s = .next t) :
    M.run (k + 1) s = M.run k t := by
  rw [Host.Core.run, h]

theorem run_succ (k : Nat) {s t : State} (h : step s = .next t) :
    Host.Core.run core (k + 1) s = Host.Core.run core k t :=
  run_succ_of_step (M := core) k h

/-- A run whose first access writes a command's word runs the command. -/
theorem run_command (k : Nat) {s t : State} {w : Word} {i : Instr} {es : List BusEvent}
    (hbus : s.bus = .write (s.base + regOffset .cmd) 4 w :: es) (hw : decode w = .command i)
    (h : exec i (s.setBus es) = .next t) : Host.Core.run core (k + 1) s = Host.Core.run core k t :=
  run_succ k ((step_commandWrite_of_command s w es i hbus hw).trans h)

/-! ## Accesses the block does not define -/

theorem atOffset_outside (s : State) (addr width : Nat) (k : Nat → Host.Outcome State Fault Refusal)
    (h : addr < s.base ∨ s.base + Config.spaceSize ≤ addr) : atOffset s addr width k = .fault (.outsideSpace addr) :=
  if_pos h

/-! ## The obligations -/

/-- Settles O53. -/
theorem windowsShowTheBuffers : Obligations.WindowsShowTheBuffers := readGives_windows

/-- Settles O54. -/
theorem reservedOffsetsReadZero : Obligations.ReservedOffsetsReadZero := by
  intro o h4 hrange
  have ho : o < Config.spaceSize := show o < 0x4000 by omega
  refine ⟨readGives_of_target ho h4 fun s => ?_, writeGives_of_target ho h4 fun v s => ?_⟩ <;>
    rw [targetOf_reserved o hrange] <;> rfl

/-- Settles O55. -/
theorem accessOutsideTheSpaceFaults : Obligations.AccessOutsideTheSpaceFaults := by
  intro s rest addr width v hout
  refine ⟨fun hbus => ?_, fun hbus => ?_⟩ <;>
  · rw [step_cons s _ rest hbus, serve]
    exact atOffset_outside (s.setBus rest) addr width _ hout

/-- Settles O52, register by register. -/
theorem hostAccessRules : Obligations.HostAccessRules := by
  refine ⟨⟨?cmd, ?status, ?opa, ?opb, ?opw0, ?opw1, ?crc, ?resId, ?resCrc, ?inLen, ?outLen, ?ftProfile, ?caps,
    readGives_windows⟩, ⟨?wOpa, ?wOpb, ?wOpw0, ?wOpw1, ?wFtProfile⟩,
    ⟨?wStatus, ?wCrc, ?wResId, ?wResCrc, ?wInLen, ?wOutLen, ?wCaps, writeIgnored_windows⟩,
    fun s rest w => ⟨fun i hw => ?_, fun why hw => ?_⟩, fun s rest o width v ho h => ⟨?_, ?_⟩⟩
  case cmd => exact readGives_reg .cmd fun s => rfl
  case status => exact readGives_reg .status fun s => rfl
  case opa => exact readGives_reg .opa fun s => rfl
  case opb => exact readGives_reg .opb fun s => rfl
  case opw0 => exact readGives_reg .opw0 fun s => rfl
  case opw1 => exact readGives_reg .opw1 fun s => rfl
  case crc => exact readGives_reg .crc fun s => rfl
  case resId => exact readGives_reg .resId fun s => shiftLeft_or_eq_ofNat s.resType s.resSlave (by omega)
  case resCrc => exact readGives_reg .resCrc fun s => shiftLeft_or_eq_ofNat s.resCalcCrc s.resRxCrc (by omega)
  case inLen => exact readGives_reg .inLen fun s => setWidth_ofNat_eq 11 _
  case outLen => exact readGives_reg .outLen fun s => setWidth_ofNat_eq 11 _
  case ftProfile => exact readGives_reg .ftProfile fun s => rfl
  case caps => exact readGives_reg .caps fun s => (shiftLeft_or_eq_ofNat _ _ (by omega)).trans (by
      rw [BitVec.toNat_ofNat, Nat.add_comm]
      rfl)
  case wOpa => exact writeGives_reg .opa fun v s => rfl
  case wOpb => exact writeGives_reg .opb fun v s => rfl
  case wOpw0 => exact writeGives_reg .opw0 fun v s => rfl
  case wOpw1 => exact writeGives_reg .opw1 fun v s => rfl
  case wFtProfile => exact writeGives_reg .ftProfile fun v s => rfl
  case wStatus => exact writeGives_reg .status fun v s => rfl
  case wCrc => exact writeGives_reg .crc fun v s => rfl
  case wResId => exact writeGives_reg .resId fun v s => rfl
  case wResCrc => exact writeGives_reg .resCrc fun v s => rfl
  case wInLen => exact writeGives_reg .inLen fun v s => rfl
  case wOutLen => exact writeGives_reg .outLen fun v s => rfl
  case wCaps => exact writeGives_reg .caps fun v s => rfl
  · exact step_commandWrite_of_command _ w rest i rfl hw
  · exact step_commandWrite_of_illegal _ w rest why rfl hw
  · exact (step_refused _ o width v rest ho h).1 rfl
  · exact (step_refused _ o width v rest ho h).2 rfl

/-- Settles O56: a read shows what its target shows, a register's write sets it, and a push of each of two words appends its
byte. -/
theorem readsHaveNoSideEffects : Obligations.ReadsHaveNoSideEffects := by
  refine ⟨fun s o rest ho h4 => ?read, fun s t o v rest ho hs h => ?write, fun s a b rest hroom => ?push⟩
  case read =>
    exact ⟨readTarget s (targetOf o), step_read_target s o rest s.rdata ho h4,
      fun x rest' => step_read_target s o rest' x ho h4⟩
  case write =>
    simp only [List.mem_cons, List.not_mem_nil, or_false] at ho
    obtain rfl | rfl | rfl | rfl | rfl := ho
    · exact step_write_again (f := (·.setOpa (v.setWidth 8))) (by decide) rfl (fun _ => rfl) (fun _ => rfl) (fun _ => rfl)
        (fun _ _ => rfl) hs h
    · exact step_write_again (f := (·.setOpb (v.setWidth 8))) (by decide) rfl (fun _ => rfl) (fun _ => rfl) (fun _ => rfl)
        (fun _ _ => rfl) hs h
    · exact step_write_again (f := (·.setOpw0 (v.setWidth 16))) (by decide) rfl (fun _ => rfl) (fun _ => rfl)
        (fun _ => rfl) (fun _ _ => rfl) hs h
    · exact step_write_again (f := (·.setOpw1 (v.setWidth 16))) (by decide) rfl (fun _ => rfl) (fun _ => rfl)
        (fun _ => rfl) (fun _ _ => rfl) hs h
    · exact step_write_again (f := (·.setProfile v)) (by decide) rfl (fun _ => rfl) (fun _ => rfl) (fun _ => rfl)
        (fun _ _ => rfl) hs h
  case push =>
    have hdecode : ∀ c, decode (immWord 0x11 c) = .command (.bufPush c) :=
      decode_immWord (m := 0xFFFF00FF) (by simp [rows]) (by decide)
    have hroom' : (s.inBuf ++ [a]).length ≠ s.maxBuf := by
      rw [List.length_append]
      exact hroom.ne
    rw [show s.inBuf ++ [a, b] = s.inBuf ++ [a] ++ [b] by simp]
    refine (run_command 1 rfl (hdecode a) (exec_bufPush_of_ne a _ ?_)).trans
      ((run_command 0 rfl (hdecode b) (exec_bufPush_of_ne b _ ?_)).trans ?_)
    · exact (Nat.lt_of_succ_lt hroom).ne
    · exact hroom'
    · exact run_zero _

end Sys2Proof.HostPort
end

section
/-! Pseudo-instructions and several blocks (30_encoding.md R100, 10_state.md R49). LOADIN and CRCBYTES write one command and
then one more for each byte, so each is a run through the states that its first bytes lead to. -/

namespace Sys2Proof.PseudoInstructions

open Sys2Proof.Machine Sys2Proof.Encoding Sys2Proof.EncodeDecode Sys2Proof.Checksum Sys2Proof.Buffers
  Sys2Proof.HostPort

/-! ## Runs of register and command writes -/

/-- A run whose first access writes a command runs that command. -/
theorem run_cmdWrite (k : Nat) {s t : State} {i : Instr} {es : List BusEvent} (hbus : s.bus = cmdWrite s.base i :: es)
    (h : exec i (s.setBus es) = .next t) : Host.Core.run core (k + 1) s = Host.Core.run core k t :=
  run_command k hbus (decode_encode i) h

theorem run_regWrite (k : Nat) {s t : State} {r : Reg} {v : Word} {es : List BusEvent}
    (hbus : s.bus = regWrite s.base r v :: es) (h : writeReg r v (s.setBus es) = .next t) :
    Host.Core.run core (k + 1) s = Host.Core.run core k t := by
  refine run_succ k ((step_write s (regOffset r) v es hbus (regOffset_defined r).1 (regOffset_defined r).2).trans ?_)
  rw [targetOf_regOffset]
  exact h

/-- A run of one command for each byte. `F` is the block after the bytes so far; each command takes it to the block after
one byte more. -/
theorem run_bytes (base : Nat) (c : Byte → Instr) (F : List Byte → State) (hbase : ∀ bs, (F bs).base = base)
    (hstep : ∀ bs b es, exec (c b) ((F bs).setBus es) = .next ((F (bs ++ [b])).setBus es)) (es : List BusEvent)
    (done todo : List Byte) :
    Host.Core.run core todo.length ((F done).setBus (todo.map (fun b => cmdWrite base (c b)) ++ es)) =
      .next ((F (done ++ todo)).setBus es) := by
  induction todo generalizing done with
  | nil => simp [run_zero]
  | cons b todo ih =>
    have hbus : ((F done).setBus ((b :: todo).map (fun b => cmdWrite base (c b)) ++ es)).bus =
        cmdWrite ((F done).setBus ((b :: todo).map (fun b => cmdWrite base (c b)) ++ es)).base (c b) ::
          (todo.map (fun b => cmdWrite base (c b)) ++ es) := by
      simp [hbase]
    rw [List.length_cons, run_cmdWrite _ hbus (hstep done b _), ih, List.append_assoc]
    rfl

/-- The same after a first command that starts the block at no bytes. -/
theorem run_start_bytes (s : State) (first : Instr) (c : Byte → Instr) (F : List Byte → State)
    (hbase : ∀ bs, (F bs).base = s.base) (hfirst : ∀ es, exec first (s.setBus es) = .next ((F []).setBus es))
    (hstep : ∀ bs b es, exec (c b) ((F bs).setBus es) = .next ((F (bs ++ [b])).setBus es)) (bs : List Byte)
    (es : List BusEvent) :
    Host.Core.run core (bs.length + 1)
        (s.setBus (cmdWrite s.base first :: bs.map (fun b => cmdWrite s.base (c b)) ++ es)) =
      .next ((F bs).setBus es) := by
  have hstart : ∀ es', exec first ((s.setBus es').setBus (bs.map (fun b => cmdWrite s.base (c b)) ++ es)) =
      .next ((F []).setBus (bs.map (fun b => cmdWrite s.base (c b)) ++ es)) := fun _ => hfirst _
  refine (run_cmdWrite _ rfl (hstart _)).trans ?_
  exact run_bytes s.base c F hbase hstep es [] bs

/-! ## LOADIN (R100) -/

/-- The block after LOADIN of some bytes: IN holds those that fit, and STATUS says whether one did not. -/
def loaded (s : State) (bs : List Byte) : State :=
  { s with inBuf := bs.take s.maxBuf, status := if s.maxBuf < bs.length then 0x02 else 0x00 }

theorem loaded_of_le {s : State} {bs : List Byte} (h : bs.length ≤ s.maxBuf) :
    loaded s bs = (s.setIn bs).setStatus .ok := by
  rw [loaded, List.take_of_length_le h, if_neg (Nat.not_lt.2 h)]
  rfl

/-- A byte that does not fit leaves IN as it is and STATUS at OVERFLOW. -/
theorem loaded_concat_of_ge {s : State} {bs : List Byte} (b : Byte) (h : s.maxBuf ≤ bs.length) :
    loaded s (bs ++ [b]) = (loaded s bs).setStatus .overflow := by
  rw [loaded, List.take_append_of_le_length h, if_pos (by rw [List.length_append]; exact Nat.lt_succ_of_le h)]
  rfl

/-- A push after the loaded bytes appends its byte while there is room; then IN is full, and stays. -/
theorem exec_bufPush_loaded (s : State) (bs : List Byte) (b : Byte) (es : List BusEvent) :
    exec (.bufPush b) ((loaded s bs).setBus es) = .next ((loaded s (bs ++ [b])).setBus es) := by
  obtain h | h := Nat.lt_or_ge bs.length s.maxBuf
  · have hfit : (bs ++ [b]).length ≤ s.maxBuf := by rw [List.length_append]; exact h
    rw [loaded_of_le h.le, loaded_of_le hfit]
    exact exec_bufPush_of_ne b _ h.ne
  · have hfull : (loaded s bs).inBuf.length = s.maxBuf := by simp [loaded, h]
    rw [loaded_concat_of_ge b h]
    exact exec_bufPush_of_eq b _ hfull

/-! ## CRCBYTES (R100) -/

/-- The block after CRCBYTES of some bytes. -/
def streamed (s : State) (bs : List Byte) : State := { s with crc := crc16 bs, status := 0x00 }

theorem exec_crcUpdate_streamed (s : State) (bs : List Byte) (b : Byte) (es : List BusEvent) :
    exec (.crcUpdate b) ((streamed s bs).setBus es) = .next ((streamed s (bs ++ [b])).setBus es) := by
  rw [streamed, streamed, crc16_concat]
  rfl

/-! ## The obligations -/

/-- Settles O57. -/
theorem loadInFillsInAndReportsOverflow : Obligations.LoadInFillsInAndReportsOverflow := fun s bs es =>
  run_start_bytes s .bufClear .bufPush (loaded s) (fun _ => rfl) 
    (fun _ => by rw [loaded_of_le (Nat.zero_le _)]; rfl) (exec_bufPush_loaded s) bs es

/-- Settles O58. -/
theorem crcBytesStreamsTheCrc : Obligations.CrcBytesStreamsTheCrc := fun s bs es =>
  run_start_bytes s .crcInit .crcUpdate (streamed s) (fun _ => rfl) (fun _ => rfl) (exec_crcUpdate_streamed s) bs es

/-- Settles O59, access by access. -/
theorem setAndLoopbackExpand : Obligations.SetAndLoopbackExpand := by
  intro s x f a q rest
  refine ⟨?setFt, ?setMb, ?loopback⟩
  case setFt => exact (run_regWrite 1 rfl rfl).trans (run_regWrite 0 rfl rfl)
  case setMb =>
    exact (run_regWrite 3 rfl rfl).trans ((run_regWrite 2 rfl rfl).trans
      ((run_regWrite 1 rfl rfl).trans (run_regWrite 0 rfl rfl)))
  case loopback => exact run_cmdWrite 0 rfl (exec_bufXfer _)

/-- Settles O60: the list is set at the place of the block that moves. -/
theorem instancesShareNothing : Obligations.InstancesShareNothing := by
  intro k links s t hk hstep
  obtain ⟨hlt, -⟩ := List.getElem?_eq_some_iff.1 hk
  refine ⟨links.set k t, ?_, List.getElem?_set_self hlt, List.length_set, fun j hj => List.getElem?_set_ne hj.symm⟩
  simp only [stepInstance, hk, hstep]

end Sys2Proof.PseudoInstructions
end
